-- ==== Sys2Proof/Word.lean ====
section
/-! DEFINITION. The word types of the KMB (spec/10_state.md R24 to R36, spec/20_memory.md R67). -/

namespace Sys2Proof

/-- A byte on the handshake port (R21, R67). -/
abbrev Byte := BitVec 8

/-- The level of all 13 key lines at one instant; bit i is line i (R21, R67). -/
abbrev Keys := BitVec 13

/-- A key line index; 0..12 are lines, 13..15 are illegal (R80, R89). -/
abbrev Line := BitVec 4

/-- A voice slot index, or a channel 0..3 (R31, R33, R86). -/
abbrev SlotIx := BitVec 2

/-- A code of the sequencer register `st`, and of `tx_ret` and `wait_ret` (R24, R32, R34). -/
abbrev SeqCode := BitVec 4

end Sys2Proof
end

