-- ==== Sys2Proof/Syntax.lean ====
section
/-! DEFINITION. The operations of the KMB: one constructor per row of spec/opcode_table.json, in the table's order
(spec/30_encoding.md R92). -/

namespace Sys2Proof

/-- The operations of R92. Those of format ST4 have no operand: they read registers, parameters and input ports. -/
inductive Instr where
  /-- OVERLAY_ENTER (R161). -/
  | overlayEnter
  /-- POLL_SAMPLE (R101). -/
  | pollSample
  /-- SCAN_EDGE (R103). -/
  | scanEdge
  /-- SCAN_END (R106). -/
  | scanEnd
  /-- TX_BYTE (R147). -/
  | txByte
  /-- WAIT_TICK (R208). -/
  | waitTick
  /-- FLASH_ON (R162). -/
  | flashOn
  /-- FLASH_OFF (R163). -/
  | flashOff
  /-- OVERLAY_LOOP (R165). -/
  | overlayLoop
  /-- OVERLAY_EXIT (R166). -/
  | overlayExit
  /-- CHSEL_TEST (R167). -/
  | chselTest
  /-- CHSEL_REPEAT (R168). -/
  | chselRepeat
  /-- OCT_DOWN (R169). -/
  | octDown
  /-- OCT_UP (R170). -/
  | octUp
  /-- ASSIGN_PRESS (R121); `key` is the line of the event word `1 LLLL`. -/
  | assignPress (key : Line)
  /-- ASSIGN_RELEASE (R122); `key` is the line of the event word `0 LLLL`. -/
  | assignRelease (key : Line)
  /-- ENC_NOTE_ON (R140); operands line and slot, the slot being `cc` of the status byte. -/
  | encNoteOn (line : Line) (slot : SlotIx)
  /-- ENC_NOTE_OFF (R141); operands as for ENC_NOTE_ON. -/
  | encNoteOff (line : Line) (slot : SlotIx)
  /-- ENC_CC (R145); the channel `c` is `cc` of the status byte. -/
  | encCc (c : SlotIx)
deriving DecidableEq, Repr

end Sys2Proof
end

