-- ==== Sys2Proof/WellFormed.lean ====
section
/-! DEFINITION. Which operations are well formed: the one check the spec makes on an operand is that a line is one of the 13
(spec/30_encoding.md R80, R89; spec/20_memory.md R61). -/

namespace Sys2Proof

/-- A line index names one of the 13 key lines (R80); 13..15 are illegal (R89). -/
def lineOk (l : Line) : Bool := decide (l.toNat ≤ 12)

/-- An operation is well formed when each line operand is a key line. Slots and channels are 2-bit fields, all of whose values
are meaningful (R84 to R86). -/
def Instr.wf : Instr → Bool
  | .overlayEnter => true
  | .pollSample => true
  | .scanEdge => true
  | .scanEnd => true
  | .txByte => true
  | .waitTick => true
  | .flashOn => true
  | .flashOff => true
  | .overlayLoop => true
  | .overlayExit => true
  | .chselTest => true
  | .chselRepeat => true
  | .octDown => true
  | .octUp => true
  | .assignPress key => lineOk key
  | .assignRelease key => lineOk key
  | .encNoteOn line _ => lineOk line
  | .encNoteOff line _ => lineOk line
  | .encCc _ => true

end Sys2Proof
end

