-- ==== Sys2Proof/Decode.lean ====
section
/-! DEFINITION. The encodings of spec/30_encoding.md: the operation selectors (R92), the edge-event word (R80) and the MIDI
messages (R81 to R88); a decoder and an encoder for each. -/

namespace Sys2Proof

/-- What selects an operation, in the three formats of R92. A KMB has no instruction memory: these are the words that stand, in
a cycle, in the sequencer register (ST4), between the scanner and the arbiter (EVT5), and at the encoder (MIDI). -/
inductive Selector where
  /-- Format ST4: the register `st`, the input `btn_in` and whether `pend` is non-zero, the conditions of R92. -/
  | st4 (st : SeqCode) (btn edges : Bool)
  /-- Format EVT5: the edge-event word of R80. -/
  | evt5 (evt : BitVec 5)
  /-- The status byte of a Note message (R84, R85), with the line of the event that the encoder is called for (R140). DESIGN
  CHOICE (log 8): the status byte has no field for the line. -/
  | note (status : Byte) (line : Line)
  /-- The status byte of a Control-Change (R86). -/
  | control (status : Byte)
deriving DecidableEq, Repr

/-- Why a selector or a byte stream names no operation or message. Raised by the decoders; safe. -/
inductive DecodeError where
  /-- `st` in 11..15 (R25, R91). -/
  | reservedState (st : SeqCode)
  /-- An event with line 13..15 (R89). -/
  | illegalLine (line : Line)
  /-- A byte that is no status byte of the KMB, or not of this kind (R83, R90). -/
  | notAStatus (b : Byte)
  /-- A data byte with bit 7 set (R82, R90). -/
  | notAData (b : Byte)
  /-- A Control-Change value byte above 3 (R86). -/
  | notAPreset (b : Byte)
  /-- The stream ends inside a message (R81). -/
  | truncated
  /-- A table word outside every format of R92. -/
  | noFormat (w : Nat)
deriving DecidableEq, Repr

/-- The edge-event word `{pressed, line}` of R80. -/
def eventWord (pressed : Bool) (line : Line) : BitVec 5 := BitVec.ofBool pressed ++ line

/-- The field `pressed` of an event word, bit 4 (R80). -/
def eventPressed (evt : BitVec 5) : Bool := evt.getLsbD 4

/-- The field `line` of an event word, bits 3:0 (R80). -/
def eventLine (evt : BitVec 5) : Line := evt.extractLsb' 0 4

/-- The kind nibble of a Note Off status (R83). PRESUMED (log 21), as the two after it: the spec marks the three values as
general knowledge of MIDI 1.0. -/
def kindNoteOff : BitVec 4 := 0x8#4

/-- The kind nibble of a Note On status (R83). -/
def kindNoteOn : BitVec 4 := 0x9#4

/-- The kind nibble of a Control-Change status (R83). -/
def kindControlChange : BitVec 4 := 0xB#4

/-- A status byte `{kind, chan}` (R83) with the channel in 0..3. -/
def statusByte (kind : BitVec 4) (chan : SlotIx) : Byte := kind ++ chan.setWidth 4

/-- The status test that R205 requires of any logic that reads a MIDI status: mask first, then compare. -/
def statusMatches (b status : Byte) : Bool := (b &&& 0xF0#8) == status

/-- The channel of a status byte whose low nibble is in 0..3 (R83, R90); none for 4..15. -/
def statusChannel (b : Byte) : Option SlotIx :=
  if b.extractLsb' 2 2 = 0#2 then some (b.extractLsb' 0 2) else none

/-- The first table of R92: the operation that `st` and its condition select. -/
def decodeState (st : SeqCode) (btn edges : Bool) : Except DecodeError Instr :=
  match st.toNat with
  | 0 => .ok (if btn then .overlayEnter else .pollSample)
  | 1 => .ok (if edges then .scanEdge else .scanEnd)
  | 2 => .ok .txByte
  | 3 => .ok .waitTick
  | 4 => .ok .flashOn
  | 5 => .ok .flashOff
  | 6 => .ok (if btn then .overlayLoop else .overlayExit)
  | 7 => .ok .chselTest
  | 8 => .ok .chselRepeat
  | 9 => .ok .octDown
  | 10 => .ok .octUp
  | _ => .error (.reservedState st)

/-- The second table of R92: the operation an edge-event word selects; lines 13..15 are refused (R89). -/
def decodeEvent (evt : BitVec 5) : Except DecodeError Instr :=
  let line := eventLine evt
  if lineOk line then .ok (if eventPressed evt then .assignPress line else .assignRelease line)
  else .error (.illegalLine line)

/-- The third table of R92, Note rows: the operation a Note status byte selects, for an event of `line`. -/
def decodeNote (status : Byte) (line : Line) : Except DecodeError Instr :=
  match statusChannel status with
  | none => .error (.notAStatus status)
  | some slot =>
    if lineOk line then
      if statusMatches status (kindNoteOn ++ 0#4) then .ok (.encNoteOn line slot)
      else if statusMatches status (kindNoteOff ++ 0#4) then .ok (.encNoteOff line slot)
      else .error (.notAStatus status)
    else .error (.illegalLine line)

/-- The third table of R92, the Control-Change row. -/
def decodeControl (status : Byte) : Except DecodeError Instr :=
  match statusChannel status with
  | none => .error (.notAStatus status)
  | some c =>
    if statusMatches status (kindControlChange ++ 0#4) then .ok (.encCc c) else .error (.notAStatus status)

/-- The operation a selector names (R92), or the reason it names none. -/
def decode : Selector → Except DecodeError Instr
  | .st4 st btn edges => decodeState st btn edges
  | .evt5 evt => decodeEvent evt
  | .note status line => decodeNote status line
  | .control status => decodeControl status

/-- The selector of an operation, written from the same tables of R92. Where R92 gives a row no condition, the condition bits
are 0. -/
def encode : Instr → Selector
  | .overlayEnter => .st4 0#4 true false
  | .pollSample => .st4 0#4 false false
  | .scanEdge => .st4 1#4 false true
  | .scanEnd => .st4 1#4 false false
  | .txByte => .st4 2#4 false false
  | .waitTick => .st4 3#4 false false
  | .flashOn => .st4 4#4 false false
  | .flashOff => .st4 5#4 false false
  | .overlayLoop => .st4 6#4 true false
  | .overlayExit => .st4 6#4 false false
  | .chselTest => .st4 7#4 false false
  | .chselRepeat => .st4 8#4 false false
  | .octDown => .st4 9#4 false false
  | .octUp => .st4 10#4 false false
  | .assignPress key => .evt5 (eventWord true key)
  | .assignRelease key => .evt5 (eventWord false key)
  | .encNoteOn line slot => .note (statusByte kindNoteOn slot) line
  | .encNoteOff line slot => .note (statusByte kindNoteOff slot) line
  | .encCc c => .control (statusByte kindControlChange c)

/-- The table's own word of a selector, as one byte: `st`, the event word or the status byte. -/
def Selector.tableByte : Selector → Byte
  | .st4 st _ _ => st.setWidth 8
  | .evt5 evt => evt.setWidth 8
  | .note status _ => status
  | .control status => status

/-- A message as a receiver reads it off the handshake port (R84 to R86). -/
inductive Message where
  /-- Note On, R84. -/
  | noteOn (slot : SlotIx) (note vel : BitVec 7)
  /-- Note Off, R85. -/
  | noteOff (slot : SlotIx) (note vel : BitVec 7)
  /-- Control-Change of length 2, R86. -/
  | cc2 (c : SlotIx) (preset : BitVec 2)
  /-- Control-Change of length 3, R86. -/
  | cc3 (c : SlotIx) (ctrl : BitVec 7) (preset : BitVec 2)
deriving DecidableEq, Repr

/-- The bytes of a message, status byte first (R62, R84 to R86). -/
def encodeMessage : Message → List Byte
  | .noteOn slot note vel => [statusByte kindNoteOn slot, note.setWidth 8, vel.setWidth 8]
  | .noteOff slot note vel => [statusByte kindNoteOff slot, note.setWidth 8, vel.setWidth 8]
  | .cc2 c preset => [statusByte kindControlChange c, preset.setWidth 8]
  | .cc3 c ctrl preset => [statusByte kindControlChange c, ctrl.setWidth 8, preset.setWidth 8]

/-- Read a data byte: bit 7 must be 0 (R82). -/
def dataByte (b : Byte) : Except DecodeError (BitVec 7) :=
  if b.getLsbD 7 then .error (.notAData b) else .ok (b.setWidth 7)

/-- Read the preset byte of a Control-Change: `0000 00pp` (R86). -/
def presetByte (b : Byte) : Except DecodeError (BitVec 2) :=
  if b.getLsbD 7 then .error (.notAData b)
  else if b.toNat ≤ 3 then .ok (b.setWidth 2) else .error (.notAPreset b)

/-- The length a receiver reads from a status byte alone (R87); `ccLen` is the parameter `CC_LEN`. -/
def messageLength (ccLen : Nat) (status : Byte) : Option Nat :=
  match statusChannel status with
  | none => none
  | some _ =>
    if statusMatches status 0x80#8 || statusMatches status 0x90#8 then some 3
    else if statusMatches status 0xB0#8 then some ccLen
    else none

/-- The message with this status byte and these two following bytes, the second unused by a message of length 2. -/
def decodeFields (ccLen : Nat) (status b1 b2 : Byte) : Except DecodeError Message :=
  match statusChannel status with
  | none => .error (.notAStatus status)
  | some c =>
    if statusMatches status 0x90#8 then do
      let n ← dataByte b1
      let v ← dataByte b2
      return .noteOn c n v
    else if statusMatches status 0x80#8 then do
      let n ← dataByte b1
      let v ← dataByte b2
      return .noteOff c n v
    else if statusMatches status 0xB0#8 then
      if ccLen = 2 then do
        let p ← presetByte b1
        return .cc2 c p
      else do
        let k ← dataByte b1
        let p ← presetByte b2
        return .cc3 c k p
    else .error (.notAStatus status)

/-- A receiver's reading of the KMB's byte stream: the first message and the bytes after it (R87). Total on any bytes. -/
def decodeMessage (ccLen : Nat) : List Byte → Except DecodeError (Message × List Byte)
  | [] => .error .truncated
  | status :: rest =>
    match messageLength ccLen status, rest with
    | none, _ => .error (.notAStatus status)
    | some 2, b1 :: rest' => do
      let m ← decodeFields ccLen status b1 0#8
      return (m, rest')
    | some _, b1 :: b2 :: rest' => do
      let m ← decodeFields ccLen status b1 b2
      return (m, rest')
    | some _, _ => .error .truncated

/-- Which format a word of spec/opcode_table.json is in. The three formats are not words of one memory, and their numbers
overlap: a word of 4 bits is ST4 and one of 5 bits EVT5; in a wider word, 0x00..0x0F is read as ST4, 0x10..0x1F as EVT5 and a
byte with bit 7 set as a status byte, its data bytes in the bits above. A condition, an operand or a format that the table
gives no bits to is 0: `btn_in = 0`, `pend = 0`, line 0. DESIGN CHOICE (log 9). -/
def tableSelector (nbits w : Nat) : Except DecodeError Selector :=
  let low := BitVec.ofNat 8 w
  let d1 := BitVec.ofNat 8 (w / 2 ^ 8)
  let d2 := BitVec.ofNat 8 (w / 2 ^ 16)
  if w ≥ 2 ^ 24 then .error (.noFormat w)
  else if nbits = 4 ∧ w < 16 then .ok (.st4 (BitVec.ofNat 4 w) false false)
  else if nbits = 5 ∧ w < 32 then .ok (.evt5 (BitVec.ofNat 5 w))
  else if w < 16 then .ok (.st4 (BitVec.ofNat 4 w) false false)
  else if w < 32 then .ok (.evt5 (BitVec.ofNat 5 w))
  else if low.getLsbD 7 && !d1.getLsbD 7 && !d2.getLsbD 7 then
    if statusMatches low 0xB0#8 then .ok (.control low) else .ok (.note low 0#4)
  else .error (.noFormat w)

/-- The operation this decoder reads from a word of spec/opcode_table.json; none where it refuses. -/
def decodeTableWord (nbits w : Nat) : Option Instr :=
  match tableSelector nbits w with
  | .ok sel => (decode sel).toOption
  | .error _ => none

end Sys2Proof
end

