-- ==== Sys2Proof/Config.lean ====
section
/-! DEFINITION. What an implementation fixes (the parameter record of spec/00_scope.md R7 and the checks of R8), the input
ports of one cycle (spec/10_state.md R21), and the free values: what no rule of the spec states. -/

namespace Sys2Proof

/-- The elaboration-time parameters of R7, as written down before they are checked. The tables are those of R37. Raw
numbers, so that R8 has something to refuse. -/
structure Params where
  /-- `KEY_MASK`: the key lines that are diffed. -/
  keyMask : Nat
  /-- `NOTE_OFFSET[0..12]`. -/
  noteOffset : Vector Nat 13
  /-- `VEL[0..12]`. -/
  vel : Vector Nat 13
  /-- `CHSEL_LINE[0..3]`. -/
  chselLine : Vector Nat 4
  /-- `OCT_DOWN_LINE`. -/
  octDownLine : Nat
  /-- `OCT_UP_LINE`. -/
  octUpLine : Nat
  /-- `OCT_MIN`. -/
  octMin : Nat
  /-- `OCT_MAX`. -/
  octMax : Nat
  /-- `OCT_RESET`. -/
  octReset : Nat
  /-- `CC_LEN`. -/
  ccLen : Nat
  /-- `CC_CTRL`. -/
  ccCtrl : Nat
  /-- `CH_REPEAT_MS`, in `tick_ms` pulses, as all the delays. -/
  chRepeatMs : Nat
  /-- `OCT_REPEAT_MS`. -/
  octRepeatMs : Nat
  /-- `FLASH_ON_MS`. -/
  flashOnMs : Nat
  /-- `FLASH_OFF_MS`. -/
  flashOffMs : Nat
  /-- `SETTLE_MS`. -/
  settleMs : Nat
deriving DecidableEq, Repr

/-- The six lines with an overlay role: channel-select 0..3, octave down, octave up (R6, R7). -/
def Params.overlayLines (p : Params) : List Nat :=
  p.chselLine.toList ++ [p.octDownLine, p.octUpLine]

/-- The five delay parameters (R7). -/
def Params.delays (p : Params) : List Nat :=
  [p.chRepeatMs, p.octRepeatMs, p.flashOnMs, p.flashOffMs, p.settleMs]

/-- R8: `KEY_MASK` has bits only in 12..0. -/
def Params.keyMaskOk (p : Params) : Bool := decide (p.keyMask < 2 ^ 13)

/-- R8: every `NOTE_OFFSET[i]` is in 0..12. -/
def Params.noteOffsetsOk (p : Params) : Bool := p.noteOffset.toList.all (fun n => decide (n ≤ 12))

/-- R8: every `VEL[i]` is in 0..127. -/
def Params.velocitiesOk (p : Params) : Bool := p.vel.toList.all (fun v => decide (v ≤ 127))

/-- R8: the six overlay lines are line numbers in 0..12. -/
def Params.overlayLinesInRange (p : Params) : Bool := p.overlayLines.all (fun l => decide (l ≤ 12))

/-- R8: the six overlay lines are distinct. -/
def Params.overlayLinesDistinct (p : Params) : Bool := decide p.overlayLines.Nodup

/-- R8: `OCT_MIN <= OCT_RESET <= OCT_MAX <= 15`. -/
def Params.octavesOk (p : Params) : Bool :=
  decide (p.octMin ≤ p.octReset ∧ p.octReset ≤ p.octMax ∧ p.octMax ≤ 15)

/-- R8: `OCT_MAX * 12 + max_i NOTE_OFFSET[i] <= 127`, said of every offset. -/
def Params.notesOk (p : Params) : Bool :=
  p.noteOffset.toList.all (fun n => decide (p.octMax * 12 + n ≤ 127))

/-- R8: `CC_LEN` is in {2, 3}. -/
def Params.ccLenOk (p : Params) : Bool := decide (p.ccLen = 2 ∨ p.ccLen = 3)

/-- R8: `CC_CTRL <= 127`. -/
def Params.ccCtrlOk (p : Params) : Bool := decide (p.ccCtrl ≤ 127)

/-- R8: every delay parameter is in 0..65535. -/
def Params.delaysOk (p : Params) : Bool := p.delays.all (fun d => decide (d ≤ 65535))

/-- R8: a parameter record is well formed only if every check holds. -/
def Params.wf (p : Params) : Bool :=
  p.keyMaskOk && p.noteOffsetsOk && p.velocitiesOk && p.overlayLinesInRange && p.overlayLinesDistinct &&
    p.octavesOk && p.notesOk && p.ccLenOk && p.ccCtrlOk && p.delaysOk

/-- Why R8 refuses a record; one reason for each check. Raised by `Config.ofParams`, before any step; safe. -/
inductive ParamError where
  /-- `KEY_MASK` has a bit above bit 12. -/
  | keyMask
  /-- A note offset above 12. -/
  | noteOffset
  /-- A velocity above 127. -/
  | velocity
  /-- An overlay line above 12. -/
  | overlayLine
  /-- Two overlay roles on one line. -/
  | overlayLinesClash
  /-- The octave bounds or the octave's reset value are out of order, or above 15. -/
  | octaves
  /-- A note number above 127 would be possible. -/
  | noteTooHigh
  /-- `CC_LEN` is neither 2 nor 3. -/
  | ccLen
  /-- `CC_CTRL` is above 127. -/
  | ccCtrl
  /-- A delay above 65535. -/
  | delay
deriving DecidableEq, Repr

/-- A parameter record that passes R8, the only kind a machine is ever built with. -/
structure Config where
  /-- The record. -/
  params : Params
  /-- It passes every check of R8. -/
  wf : params.wf = true
deriving DecidableEq, Repr

/-- The first check of R8, in the rule's order, that a record fails. -/
def Params.fault? (p : Params) : Option ParamError :=
  if !p.keyMaskOk then some .keyMask
  else if !p.noteOffsetsOk then some .noteOffset
  else if !p.velocitiesOk then some .velocity
  else if !p.overlayLinesInRange then some .overlayLine
  else if !p.overlayLinesDistinct then some .overlayLinesClash
  else if !p.octavesOk then some .octaves
  else if !p.notesOk then some .noteTooHigh
  else if !p.ccLenOk then some .ccLen
  else if !p.ccCtrlOk then some .ccCtrl
  else if !p.delaysOk then some .delay
  else none

/-- R8: "A model refuses a record that fails any of them". The refusal comes before stepping
(spec/93_implementation_defined.md I5). -/
def Config.ofParams (p : Params) : Except ParamError Config :=
  if h : p.wf = true then .ok ⟨p, h⟩ else .error (p.fault?.getD .keyMask)

/-- The defaults of R7. -/
def Params.default : Params where
  keyMask := 0x1FFF
  noteOffset := #v[0, 1, 2, 3, 4, 5, 6, 7, 8, 9, 10, 11, 12]
  vel := #v[100, 100, 100, 100, 100, 100, 100, 100, 100, 100, 100, 100, 100]
  chselLine := #v[0, 1, 2, 3]
  octDownLine := 11
  octUpLine := 12
  octMin := 0
  octMax := 9
  octReset := 5
  ccLen := 2
  ccCtrl := 0x10
  chRepeatMs := 100
  octRepeatMs := 400
  flashOnMs := 150
  flashOffMs := 150
  settleMs := 50

/-- The default record as a configuration; R8 accepts it. -/
def Config.default : Config := ⟨Params.default, by decide⟩

/-- The input ports of one clock cycle (R21, R22, R23): clean booleans, synchronous to `clk`. -/
structure Inputs where
  /-- `rst`, synchronous reset, active high. -/
  rst : Bool
  /-- `key_in`, bit i is line i, 1 is pressed. -/
  keyIn : Keys
  /-- `btn_in`, 1 is held. -/
  btnIn : Bool
  /-- `tick_ms`, the time-base strobe. -/
  tickMs : Bool
  /-- `tx_ready`, the transmitter can accept a byte in this cycle. -/
  txReady : Bool
deriving DecidableEq, Repr, Inhabited

/-- FREE VALUE. What the environment drives in a cycle for which State lists no input: R243 lets it drive any value.
DESIGN CHOICE (log 2); safe. -/
opaque Config.freeInputs : Nat → Inputs

/-- FREE VALUE. `flash_cnt - 1` at `flash_cnt = 0`: R163 says the decrement never meets it and states no value.
DESIGN CHOICE (log 14); safe. -/
opaque Config.freeFlashCnt : Nat → BitVec 2

/-- FREE VALUE. The level of the line `CHSEL_LINE[c]` for c in 5..7, entries the table does not have (R61).
DESIGN CHOICE (log 15); safe. -/
opaque Config.freeLevel : Nat → Bool

/-- FREE VALUE. `ch_idx + 1` at `ch_idx = 7`, which 3 bits do not hold; no rule states a wrap (R9, R35).
DESIGN CHOICE (log 16); safe. -/
opaque Config.freeChIdx : Nat → BitVec 3

/-- FREE VALUE. `tx_idx + 1` at `tx_idx = 3`, which 2 bits do not hold; no rule states a wrap (R9, R32).
DESIGN CHOICE (log 17); safe. -/
opaque Config.freeTxIdx : Nat → BitVec 2

/-- FREE VALUE. `msg_b[3]`, a byte the buffer does not have (R38). DESIGN CHOICE (log 17); safe. -/
opaque Config.freeByte : Nat → Byte

end Sys2Proof
end

