-- ==== Sys2Proof/Machine/State.lean ====
section
/-! DEFINITION. The state of the KMB: every register of spec/10_state.md R40, and the model's own fields that carry what R22
and R41 make configuration and per-step arguments. -/

namespace Sys2Proof.Machine

/-- One voice slot (R31): `v` is `slot_v[s]`, 1 if a key owns the slot; `k` is `slot_k[s]`, the owner's line. -/
structure Slot where
  /-- `slot_v[s]`. -/
  v : Bool
  /-- `slot_k[s]`. -/
  k : Line
deriving DecidableEq, Repr

/-- The voice pool of 4 entries (R31). -/
structure Pool where
  /-- Slot 0. -/
  s0 : Slot
  /-- Slot 1. -/
  s1 : Slot
  /-- Slot 2. -/
  s2 : Slot
  /-- Slot 3. -/
  s3 : Slot
deriving DecidableEq, Repr

/-- A FREE slot: `slot_v = 0`, `slot_k = 0` (R31). -/
def Slot.freeSlot : Slot := ⟨false, 0#4⟩

/-- The pool with all slots FREE (R31, R40). -/
def Pool.empty : Pool := ⟨Slot.freeSlot, Slot.freeSlot, Slot.freeSlot, Slot.freeSlot⟩

/-- The outcome kinds of a Voice Arbiter call (R200). -/
inductive ResKind where
  /-- A press claimed a free slot. -/
  | claim
  /-- A press found its key's slot. -/
  | reuse
  /-- A release freed its key's slot. -/
  | free
  /-- PolyphonyOverflow (R201). -/
  | overflow
  /-- SpuriousRelease (R202). -/
  | spurious
deriving DecidableEq, Repr

/-- The result of a Voice Arbiter call (R120): the slot or NONE, the kind, and the pool after the call. -/
structure Assigned where
  /-- The slot index 0..3, or none for NONE. -/
  slot : Option Nat
  /-- The outcome kind. -/
  kind : ResKind
  /-- The pool after the call. -/
  pool : Pool
deriving DecidableEq, Repr

/-- The state of the KMB. The first group is R40's registers, each under its own name; the last four fields are the model's. -/
structure State where
  /-- `st`, the sequencer state (R24). -/
  st : SeqCode
  /-- `prev`, the key sample of the last completed poll (R26). -/
  prev : Keys
  /-- `cur`, the key sample of the poll in progress (R27). -/
  cur : Keys
  /-- `pend`, the edges of the poll not yet processed (R28). -/
  pend : Keys
  /-- `octave` (R29). -/
  octave : BitVec 4
  /-- `preset` (R30). -/
  preset : BitVec 2
  /-- `slot_v[0..3]` and `slot_k[0..3]` (R31). -/
  pool : Pool
  /-- `msg_len`, 2 or 3 (R32). -/
  msgLen : BitVec 2
  /-- `msg_b0` (R32). -/
  msgB0 : Byte
  /-- `msg_b1` (R32). -/
  msgB1 : Byte
  /-- `msg_b2` (R32). -/
  msgB2 : Byte
  /-- `tx_idx`, the byte being offered (R32). -/
  txIdx : BitVec 2
  /-- `tx_ret`, the state after the last byte (R32). -/
  txRet : SeqCode
  /-- `wait_cnt`, the ticks still to wait (R34). -/
  waitCnt : BitVec 16
  /-- `wait_ret`, the state after the wait (R34). -/
  waitRet : SeqCode
  /-- `flash_cnt`, the flashes still to show (R35). -/
  flashCnt : BitVec 2
  /-- `ch_idx`, the channel-select line being tested (R35). -/
  chIdx : BitVec 3
  /-- `led` (R36). -/
  led : Bool
  /-- `ovl` (R36). -/
  ovl : Bool
  /-- `res_valid` (R33). -/
  resValid : Bool
  /-- `res_kind` (R33). -/
  resKind : BitVec 3
  /-- `res_line` (R33). -/
  resLine : Line
  /-- `res_slot` (R33). -/
  resSlot : SlotIx
  /-- The MODEL's field: the checked parameter record (R7, R8, R37). No step writes it (log 4). -/
  cfg : Config
  /-- The MODEL's field: the input ports in the current cycle (R21, R22; log 1). -/
  inputs : Inputs
  /-- The MODEL's field: the inputs already given for the following cycles, oldest first (log 1). -/
  stim : List Inputs
  /-- The MODEL's field: the index of the next free value (log 2). -/
  freeIdx : Nat
deriving DecidableEq, Repr

/-- Why the machine stops with a fault. -/
inductive Fault where
  /-- `st` holds a code 11..15, which no transition writes (R25). Raised by `step`; safe: the spec gives these states no
  transition. -/
  | illegalSequencerState (st : SeqCode)
  /-- `lowest(0)` was asked for (R10, spec/93_implementation_defined.md I6). Raised by SCAN_EDGE run with `pend = 0`, which
  `step` never does; safe. -/
  | lowestOfZero
deriving DecidableEq, Repr

/-- Why the model gives an operation no meaning. -/
inductive Refusal where
  /-- An operation that has no meaning in this model. Raised by no arm of `exec`; safe. -/
  | notModelled (mnemonic : String)
  /-- An operand line 13..15, which names no key line; R89: "a model that builds such a word ... must refuse it". Raised by
  ASSIGN_PRESS, ASSIGN_RELEASE, ENC_NOTE_ON and ENC_NOTE_OFF; safe. -/
  | illegalLine (line : Line)
deriving DecidableEq, Repr

/-- The inputs of the cycle after reset where nothing is given: no reset, no key, no button, and R93's script defaults
`TICK EVERY` and `READY 1`. DESIGN CHOICE (log 3); unsafe. -/
def idleInputs : Inputs := ⟨false, 0#13, false, true, true⟩

/-- Every register at its reset value of R40, for the given parameters, inputs and free-value index. -/
def State.resetWith (cfg : Config) (inputs : Inputs) (stim : List Inputs) (freeIdx : Nat) : State where
  st := 0#4
  prev := 0#13
  cur := 0#13
  pend := 0#13
  octave := BitVec.ofNat 4 cfg.params.octReset
  preset := 0#2
  pool := Pool.empty
  msgLen := 3#2
  msgB0 := 0#8
  msgB1 := 0#8
  msgB2 := 0#8
  txIdx := 0#2
  txRet := 0#4
  waitCnt := 0#16
  waitRet := 0#4
  flashCnt := 0#2
  chIdx := 0#3
  led := false
  ovl := false
  resValid := false
  resKind := 0#3
  resLine := 0#4
  resSlot := 0#2
  cfg := cfg
  inputs := inputs
  stim := stim
  freeIdx := freeIdx

/-- The machine right after reset (R40), with the default parameters of R7 and idle inputs (log 3). -/
def State.reset : State := State.resetWith Config.default idleInputs [] 0

end Sys2Proof.Machine
end

