-- ==== Sys2Proof/Machine/Flags.lean ====
section
/-! DEFINITION. The result registers, which play the part of flags (spec/10_state.md R20, R33; spec/60_exceptions.md R200). -/

namespace Sys2Proof.Machine

/-- The code of an outcome kind (R200). The codes 5..7 are never produced. -/
def ResKind.code : ResKind → BitVec 3
  | .claim => 0#3
  | .reuse => 1#3
  | .free => 2#3
  | .overflow => 3#3
  | .spurious => 4#3

/-- R33: in every cycle that does not write the result registers, `res_valid <- 0` and the other three keep their values. -/
def State.quiet (s : State) : State := { s with resValid := false }

/-- R103: an arbiter call's pool update, and its report on the four result registers; `res_slot` is 0 for NONE (R33). -/
def State.reportCall (s : State) (line : Line) (a : Assigned) : State :=
  { s with
    pool := a.pool
    resValid := true
    resKind := a.kind.code
    resLine := line
    resSlot := BitVec.ofNat 2 (a.slot.getD 0) }

end Sys2Proof.Machine
end

