-- ==== Sys2Proof/Machine/Operands.lean ====
section
/-! DEFINITION. What the operations read: the sequencer's codes (spec/10_state.md R24), the constant tables (R37;
spec/20_memory.md R61), the sampled input ports (spec/00_scope.md R10) and the bytes assembled from them (spec/30_encoding.md
R88). -/

namespace Sys2Proof.Machine

/-- `S_IDLE` (R24). -/
abbrev sIdle : SeqCode := 0#4
/-- `S_SCAN` (R24). -/
abbrev sScan : SeqCode := 1#4
/-- `S_TX` (R24). -/
abbrev sTx : SeqCode := 2#4
/-- `S_WAIT` (R24). -/
abbrev sWait : SeqCode := 3#4
/-- `S_FLASH` (R24). -/
abbrev sFlash : SeqCode := 4#4
/-- `S_FLASH_GAP` (R24). -/
abbrev sFlashGap : SeqCode := 5#4
/-- `S_OVL_TOP` (R24). -/
abbrev sOvlTop : SeqCode := 6#4
/-- `S_OVL_CH` (R24). -/
abbrev sOvlCh : SeqCode := 7#4
/-- `S_OVL_CHW` (R24). -/
abbrev sOvlChw : SeqCode := 8#4
/-- `S_OVL_OCTDN` (R24). -/
abbrev sOvlOctdn : SeqCode := 9#4
/-- `S_OVL_OCTUP` (R24). -/
abbrev sOvlOctup : SeqCode := 10#4

/-- `lowest(m)` of R10 for the mask of the indices below `n` with `m i`: its least index, none for the zero mask. -/
def lowestIn (n : Nat) (m : Nat → Bool) : Option Nat := (List.range n).find? m

/-- `KEY_MASK` (R7). -/
def keyMask (c : Config) : Keys := BitVec.ofNat 13 c.params.keyMask

/-- `NOTE_OFFSET[line]` (R7). The index is a key line wherever an operation reads it (R61). -/
def noteOffsetAt (c : Config) (line : Line) : Nat := c.params.noteOffset.toList.getD line.toNat 0

/-- The velocity byte `zext_8(VEL[line])` (R143). -/
def velocityByte (c : Config) (line : Line) : Byte := BitVec.ofNat 8 (c.params.vel.toList.getD line.toNat 0)

/-- The note byte `NOTE_OFFSET[line] + octave * 12`, exact and stored in 8 bits (R142). -/
def noteByte (c : Config) (line : Line) (octave : BitVec 4) : Byte :=
  BitVec.ofNat 8 (noteOffsetAt c line + octave.toNat * 12)

/-- A delay parameter as loaded into the 16-bit `wait_cnt` (R34); R8 keeps it in range. -/
def delay (ms : Nat) : BitVec 16 := BitVec.ofNat 16 ms

/-- The sampled level of key line `l` in this cycle (R10, R65). -/
def State.keyLevel (s : State) (l : Nat) : Bool := s.inputs.keyIn.getLsbD l

/-- `Sample(key_in)[CHSEL_LINE[ch_idx]]` (R167). For `ch_idx` in 5..7, which no run reaches, the table has no entry (R61) and
the level is a free value. DESIGN CHOICE (log 15). -/
def State.chselLevel (s : State) : Bool :=
  if s.chIdx.toNat < 4 then s.keyLevel (s.cfg.params.chselLine.toList.getD s.chIdx.toNat 0)
  else Config.freeLevel s.freeIdx

/-- `ch_idx + 1` (R167, R168); a free value at 7, which no run reaches. DESIGN CHOICE (log 16). -/
def State.chIdxNext (s : State) : BitVec 3 :=
  if s.chIdx = 7#3 then Config.freeChIdx s.freeIdx else s.chIdx + 1#3

/-- `flash_cnt - 1` (R163); a free value at 0, which no run reaches. DESIGN CHOICE (log 14). -/
def State.flashCntNext (s : State) : BitVec 2 :=
  if s.flashCnt = 0#2 then Config.freeFlashCnt s.freeIdx else s.flashCnt - 1#2

/-- `tx_idx + 1` (R147); a free value at 3, which no run reaches. DESIGN CHOICE (log 17). -/
def State.txIdxNext (s : State) : BitVec 2 :=
  if s.txIdx = 3#2 then Config.freeTxIdx s.freeIdx else s.txIdx + 1#2

/-- `tx_idx = msg_len - 1` (R38, R147), in exact integers (R9), so false for every `tx_idx` at `msg_len = 0`. DEDUCED (log 18). -/
def State.atLastByte (s : State) : Bool := s.txIdx.toNat + 1 == s.msgLen.toNat

/-- `msg_b[tx_idx]` (R38); a free value at 3, a byte the buffer does not have. DESIGN CHOICE (log 17). -/
def State.currentByte (s : State) : Byte :=
  match s.txIdx.toNat with
  | 0 => s.msgB0
  | 1 => s.msgB1
  | 2 => s.msgB2
  | _ => Config.freeByte s.freeIdx

/-- The free-value index after a cycle that read a free value if `used`. -/
def State.freeIdxAfter (s : State) (used : Bool) : Nat := if used then s.freeIdx + 1 else s.freeIdx

end Sys2Proof.Machine
end

