-- ==== Sys2Proof/Machine/Ops.lean ====
section
/-! DEFINITION. The shared operations: sequencer moves, the voice-slot CAM, the message buffer, and what a cycle does around an
operation. The KMB raises no trap and returns from none (spec/60_exceptions.md R204), so there is no exception entry here; and it
has no addressable memory (spec/20_memory.md R60), so there is no memory access here. -/

namespace Sys2Proof.Machine

/-- What an operation answers. -/
abbrev StepOutcome := Host.Outcome State Fault Refusal

/-- `goto S` (R10). -/
def State.goto (s : State) (code : SeqCode) : State := { s with st := code }

/-- `tx_idx <- 0; tx_ret <- ret; goto S_TX` (R103, R146, R167). -/
def State.startTx (s : State) (ret : SeqCode) : State := { s with txIdx := 0#2, txRet := ret, st := sTx }

/-- `wait_cnt <- ms; wait_ret <- ret; goto S_WAIT` (R162, R163, R166, R168 to R170). -/
def State.startWait (s : State) (ms : Nat) (ret : SeqCode) : State :=
  { s with waitCnt := delay ms, waitRet := ret, st := sWait }

/-- Load the message buffer whole (R32). -/
def State.loadMessage (s : State) (len : BitVec 2) (b0 b1 b2 : Byte) : State :=
  { s with msgLen := len, msgB0 := b0, msgB1 := b1, msgB2 := b2 }

/-- Load a Note On (R140). -/
def State.loadNoteOn (s : State) (line : Line) (slot : SlotIx) : State :=
  s.loadMessage 3#2 (0x90#8 ||| slot.setWidth 8) (noteByte s.cfg line s.octave) (velocityByte s.cfg line)

/-- Load a Note Off (R141): the octave as it is now, the same table velocity. -/
def State.loadNoteOff (s : State) (line : Line) (slot : SlotIx) : State :=
  s.loadMessage 3#2 (0x80#8 ||| slot.setWidth 8) (noteByte s.cfg line s.octave) (velocityByte s.cfg line)

/-- Load a Control-Change of channel `c`, given as a byte (R145). With `CC_LEN = 2`, `msg_b2` is 0. -/
def State.loadCc (s : State) (c : Byte) : State :=
  if s.cfg.params.ccLen = 2 then s.loadMessage 2#2 (0xB0#8 ||| c) (s.preset.setWidth 8) 0#8
  else s.loadMessage 3#2 (0xB0#8 ||| c) (BitVec.ofNat 8 s.cfg.params.ccCtrl) (s.preset.setWidth 8)

/-- Slot `i` of the pool, i in 0..3. -/
def Pool.get (p : Pool) : Nat → Slot
  | 0 => p.s0
  | 1 => p.s1
  | 2 => p.s2
  | _ => p.s3

/-- The pool with slot `i` replaced, i in 0..3. -/
def Pool.set (p : Pool) (i : Nat) (x : Slot) : Pool :=
  match i with
  | 0 => { p with s0 := x }
  | 1 => { p with s1 := x }
  | 2 => { p with s2 := x }
  | _ => { p with s3 := x }

/-- `hit[i] = slot_v[i] & (slot_k[i] = key)` (R120). -/
def Pool.hit (p : Pool) (key : Line) (i : Nat) : Bool := (p.get i).v && (p.get i).k == key

/-- `free[i] = ~slot_v[i]` (R120). -/
def Pool.isFree (p : Pool) (i : Nat) : Bool := !(p.get i).v

/-- The call of ASSIGN_PRESS (R121): reuse the key's slot, else claim the lowest free slot, else overflow. -/
def Pool.press (p : Pool) (key : Line) : Assigned :=
  match lowestIn 4 (p.hit key) with
  | some i => ⟨some i, .reuse, p⟩
  | none =>
    match lowestIn 4 p.isFree with
    | some i => ⟨some i, .claim, p.set i ⟨true, key⟩⟩
    | none => ⟨none, .overflow, p⟩

/-- The call of ASSIGN_RELEASE (R122): free the key's slot, else spurious. -/
def Pool.release (p : Pool) (key : Line) : Assigned :=
  match lowestIn 4 (p.hit key) with
  | some i => ⟨some i, .free, p.set i Slot.freeSlot⟩
  | none => ⟨none, .spurious, p⟩

/-- `Assign(line, pressed)` of R103. -/
def Pool.assign (p : Pool) (pressed : Bool) (key : Line) : Assigned :=
  if pressed then p.press key else p.release key

/-- The effect of SCAN_EDGE for the event of `line` (R103): clear its `pend` bit, call the arbiter, report, and, if a slot
results, load the Note message and go to `S_TX`. -/
def State.scanEvent (s : State) (line : Nat) : State :=
  let pressed := s.cur.getLsbD line
  let key := BitVec.ofNat 4 line
  let a := s.pool.assign pressed key
  let t := ({ s with pend := s.pend &&& ~~~(1#13 <<< line) } : State).reportCall key a
  match a.slot with
  | none => t
  | some i =>
    let slot := BitVec.ofNat 2 i
    (if pressed then t.loadNoteOn key slot else t.loadNoteOff key slot).startTx sScan

/-- The registers at their reset values, in any cycle with `rst = 1` (R22, R220). The parameters stay (R41). -/
def State.resetRegisters (s : State) : State := State.resetWith s.cfg s.inputs s.stim s.freeIdx

/-- The pins driven with given inputs, by the environment (R243). -/
def State.drive (s : State) (i : Inputs) : State := { s with inputs := i }

/-- The end of a cycle: the pins take the next given inputs, or free ones where none is given. DESIGN CHOICE (log 1, 2). -/
def State.nextCycle (s : State) : State :=
  match s.stim with
  | i :: rest => { s with inputs := i, stim := rest }
  | [] => { s with inputs := Config.freeInputs s.freeIdx, freeIdx := s.freeIdx + 1 }

/-- Go on from a next state; a stop stays a stop. -/
def onNext (f : State → State) : StepOutcome → StepOutcome
  | .next s => .next (f s)
  | .fault r => .fault r
  | .refused r => .refused r

end Sys2Proof.Machine
end

