-- ==== Sys2Proof/Machine/Arbiter.lean ====
section
/-! DEFINITION. The Voice Arbiter's operations (spec/41_voice_arbiter.md), each run by itself: the call's pool update and its
report on the result registers, the part of a SCAN_EDGE cycle that is the arbiter's. DESIGN CHOICE (log 7). -/

namespace Sys2Proof.Machine

/-- ASSIGN_PRESS (R121). A line 13..15 is refused (R89). -/
def execAssignPress (key : Line) (s : State) : StepOutcome :=
  if lineOk key then .next (s.reportCall key (s.pool.press key)) else .refused (.illegalLine key)

/-- ASSIGN_RELEASE (R122). A line 13..15 is refused (R89). -/
def execAssignRelease (key : Line) (s : State) : StepOutcome :=
  if lineOk key then .next (s.reportCall key (s.pool.release key)) else .refused (.illegalLine key)

end Sys2Proof.Machine
end

