-- ==== Sys2Proof/Machine/Encoder.lean ====
section
/-! DEFINITION. The MIDI Encoder and Transmitter's operations (spec/42_midi_encoder.md). An encoding operation run by itself
loads the message buffer and nothing else: `tx_ret`, `tx_idx` and `st` are its caller's (R146; log 7). -/

namespace Sys2Proof.Machine

/-- ENC_NOTE_ON (R140). A line 13..15 is refused (R89; log 13). -/
def execEncNoteOn (line : Line) (slot : SlotIx) (s : State) : StepOutcome :=
  if lineOk line then .next (s.loadNoteOn line slot) else .refused (.illegalLine line)

/-- ENC_NOTE_OFF (R141). A line 13..15 is refused (R89; log 13). -/
def execEncNoteOff (line : Line) (slot : SlotIx) (s : State) : StepOutcome :=
  if lineOk line then .next (s.loadNoteOff line slot) else .refused (.illegalLine line)

/-- ENC_CC (R145). -/
def execEncCc (c : SlotIx) (s : State) : StepOutcome := .next (s.loadCc (c.setWidth 8))

/-- TX_BYTE (R147): with `tx_ready = 1` the current byte is transferred and the index advances, or the message ends; with
`tx_ready = 0` the state holds (TransmitterStall, R203). -/
def execTxByte (s : State) : StepOutcome :=
  if s.inputs.txReady then
    if s.atLastByte then .next ({ s.quiet with txIdx := 0#2 }.goto s.txRet)
    else .next { s.quiet with txIdx := s.txIdxNext, freeIdx := s.freeIdxAfter (s.txIdx == 3#2) }
  else .next s.quiet

end Sys2Proof.Machine
end

