-- ==== Sys2Proof/Machine/Mode.lean ====
section
/-! DEFINITION. The Mode State Machine's operations (spec/43_mode_fsm.md). -/

namespace Sys2Proof.Machine

/-- OVERLAY_ENTER (R161). -/
def execOverlayEnter (s : State) : StepOutcome :=
  .next ({ s.quiet with ovl := true, flashCnt := s.preset }.goto sFlash)

/-- FLASH_ON (R162). -/
def execFlashOn (s : State) : StepOutcome :=
  if s.flashCnt = 0#2 then .next (s.quiet.goto sOvlTop)
  else .next ({ s.quiet with led := true }.startWait s.cfg.params.flashOnMs sFlashGap)

/-- FLASH_OFF (R163). -/
def execFlashOff (s : State) : StepOutcome :=
  .next ({ s.quiet with
    led := false
    flashCnt := s.flashCntNext
    freeIdx := s.freeIdxAfter (s.flashCnt == 0#2) }.startWait s.cfg.params.flashOffMs sFlash)

/-- OVERLAY_LOOP (R165). -/
def execOverlayLoop (s : State) : StepOutcome := .next ({ s.quiet with chIdx := 0#3 }.goto sOvlCh)

/-- OVERLAY_EXIT (R166); the preset wraps after 3. -/
def execOverlayExit (s : State) : StepOutcome :=
  .next ({ s.quiet with ovl := false, preset := s.preset + 1#2 }.startWait s.cfg.params.settleMs sIdle)

/-- CHSEL_TEST (R167): a level test of channel-select line `ch_idx`. -/
def execChselTest (s : State) : StepOutcome :=
  if s.chIdx = 4#3 then .next (s.quiet.goto sOvlOctdn)
  else if s.chselLevel then
    .next ({ s.quiet.loadCc (s.chIdx.setWidth 8) with
      freeIdx := s.freeIdxAfter (decide (4 < s.chIdx.toNat)) }.startTx sOvlChw)
  else
    .next { s.quiet with
      chIdx := s.chIdxNext
      freeIdx := s.freeIdxAfter (decide (4 < s.chIdx.toNat)) }

/-- CHSEL_REPEAT (R168). -/
def execChselRepeat (s : State) : StepOutcome :=
  .next ({ s.quiet with
    chIdx := s.chIdxNext
    freeIdx := s.freeIdxAfter (s.chIdx == 7#3) }.startWait s.cfg.params.chRepeatMs sOvlCh)

/-- OCT_DOWN (R169): the delay is taken even where the clamp leaves the octave unchanged. -/
def execOctDown (s : State) : StepOutcome :=
  if s.keyLevel s.cfg.params.octDownLine then
    .next ({ s.quiet with
      octave := if s.cfg.params.octMin < s.octave.toNat then s.octave - 1#4 else s.octave
      }.startWait s.cfg.params.octRepeatMs sOvlOctup)
  else .next (s.quiet.goto sOvlOctup)

/-- OCT_UP (R170): the delay is taken even where the clamp leaves the octave unchanged. -/
def execOctUp (s : State) : StepOutcome :=
  if s.keyLevel s.cfg.params.octUpLine then
    .next ({ s.quiet with
      octave := if s.octave.toNat < s.cfg.params.octMax then s.octave + 1#4 else s.octave
      }.startWait s.cfg.params.octRepeatMs sOvlTop)
  else .next (s.quiet.goto sOvlTop)

end Sys2Proof.Machine
end

