-- ==== Sys2Proof/Machine/Scanner.lean ====
section
/-! DEFINITION. The Key Scanner's operations (spec/40_key_scanner.md). -/

namespace Sys2Proof.Machine

/-- POLL_SAMPLE (R101): one sample of all 13 lines, and the edges against the previous poll. No debounce (R108). -/
def execPollSample (s : State) : StepOutcome :=
  .next ({ s.quiet with
    cur := s.inputs.keyIn
    pend := keyMask s.cfg &&& (s.prev ^^^ s.inputs.keyIn) }.goto sScan)

/-- SCAN_EDGE (R103): process the lowest pending edge. With `pend = 0`, where R103 is not selected, `lowest(0)` faults (I6). -/
def execScanEdge (s : State) : StepOutcome :=
  match lowestIn 13 s.pend.getLsbD with
  | none => .fault .lowestOfZero
  | some line => .next (s.scanEvent line)

/-- SCAN_END (R106): `previous := current`, back to `S_IDLE`. -/
def execScanEnd (s : State) : StepOutcome := .next ({ s.quiet with prev := s.cur }.goto sIdle)

end Sys2Proof.Machine
end

