-- ==== Sys2Proof/Machine/Timer.lean ====
section
/-! DEFINITION. The delay timer's operation (spec/60_exceptions.md R208). -/

namespace Sys2Proof.Machine

/-- WAIT_TICK (R208): count the ticks down, then leave for `wait_ret`. -/
def execWaitTick (s : State) : StepOutcome :=
  if s.waitCnt = 0#16 then .next (s.quiet.goto s.waitRet)
  else if s.inputs.tickMs then .next { s.quiet with waitCnt := s.waitCnt - 1#16 }
  else .next s.quiet

end Sys2Proof.Machine
end

