-- ==== Sys2Proof/Machine/Dispatch.lean ====
section
/-! DEFINITION. The meaning of every operation of spec/opcode_table.json: one arm per constructor of Instr. -/

namespace Sys2Proof.Machine

def exec (i : Instr) (s : State) : Host.Outcome State Fault Refusal :=
  match i with
  | .overlayEnter => Sys2Proof.Machine.execOverlayEnter s
  | .pollSample => Sys2Proof.Machine.execPollSample s
  | .scanEdge => Sys2Proof.Machine.execScanEdge s
  | .scanEnd => Sys2Proof.Machine.execScanEnd s
  | .txByte => Sys2Proof.Machine.execTxByte s
  | .waitTick => Sys2Proof.Machine.execWaitTick s
  | .flashOn => Sys2Proof.Machine.execFlashOn s
  | .flashOff => Sys2Proof.Machine.execFlashOff s
  | .overlayLoop => Sys2Proof.Machine.execOverlayLoop s
  | .overlayExit => Sys2Proof.Machine.execOverlayExit s
  | .chselTest => Sys2Proof.Machine.execChselTest s
  | .chselRepeat => Sys2Proof.Machine.execChselRepeat s
  | .octDown => Sys2Proof.Machine.execOctDown s
  | .octUp => Sys2Proof.Machine.execOctUp s
  | .assignPress key => Sys2Proof.Machine.execAssignPress key s
  | .assignRelease key => Sys2Proof.Machine.execAssignRelease key s
  | .encNoteOn line slot => Sys2Proof.Machine.execEncNoteOn line slot s
  | .encNoteOff line slot => Sys2Proof.Machine.execEncNoteOff line slot s
  | .encCc c => Sys2Proof.Machine.execEncCc c s

end Sys2Proof.Machine
end

