-- ==== Sys2Proof/Machine/Fetch.lean ====
section
/-! DEFINITION. Which operation a cycle runs (spec/10_state.md R39, spec/30_encoding.md R92), and how a given operation is put
where the next cycle runs it. -/

namespace Sys2Proof.Machine

/-- The operation selector of the current cycle: `st`, `btn_in` and whether `pend` is non-zero (R92). -/
def State.selector (s : State) : Selector := .st4 s.st s.inputs.btnIn (s.pend != 0#13)

/-- The edge-event word of the current `S_SCAN` cycle (R80, R103); none when `pend = 0`. -/
def State.event (s : State) : Option (BitVec 5) :=
  (lowestIn 13 s.pend.getLsbD).map fun line => eventWord (s.cur.getLsbD line) (BitVec.ofNat 4 line)

/-- The operation of the current cycle when `rst = 0` (R39). -/
def fetch (s : State) : Except DecodeError Instr := decode s.selector

/-- `btn_in` driven to a level, `rst` to 0. -/
def State.driveButton (s : State) (b : Bool) : State := s.drive { s.inputs with rst := false, btnIn := b }

/-- Line `l` of a key mask set to a level. -/
def setLine (k : Keys) (l : Nat) (level : Bool) : Keys :=
  if level then k ||| (1#13 <<< l) else k &&& ~~~(1#13 <<< l)

/-- An edge of `line` as the only pending event of an `S_SCAN` cycle. -/
def State.placeEvent (s : State) (line : Line) (pressed : Bool) : State :=
  { s.driveButton s.inputs.btnIn with
    st := sScan
    pend := 1#13 <<< line.toNat
    cur := setLine s.cur line.toNat pressed }

/-- A line different from `line`, one for each of 0, 1, 2: the owners of the slots below a slot that is to be granted. -/
def otherLine (line : Line) (i : Nat) : Line := BitVec.ofNat 4 ((line.toNat + 1 + i) % 13)

/-- A pool in which slot `slot` is the lowest free one and `line` owns none. -/
def poolGranting (line : Line) (slot : SlotIx) : Pool :=
  let taken (i : Nat) : Slot := if i < slot.toNat then ⟨true, otherLine line i⟩ else Slot.freeSlot
  ⟨taken 0, taken 1, taken 2, taken 3⟩

/-- A pool in which `line` owns slot `slot` and the other slots are FREE. -/
def poolOwning (line : Line) (slot : SlotIx) : Pool := Pool.empty.set slot.toNat ⟨true, line⟩

/-- The state changed so that the very next step runs operation `i`: an ST4 operation by its `st` and condition; an arbiter or
Note operation by a pending event in `S_SCAN` (with a pool that leads to the slot); a Control-Change by its channel's line in
`S_OVL_CH`. DESIGN CHOICE (log 10). -/
def State.placeInstr (s : State) : Instr → State
  | .overlayEnter => { s.driveButton true with st := sIdle }
  | .pollSample => { s.driveButton false with st := sIdle }
  | .scanEdge => { s.driveButton s.inputs.btnIn with st := sScan, pend := if s.pend = 0#13 then 1#13 else s.pend }
  | .scanEnd => { s.driveButton s.inputs.btnIn with st := sScan, pend := 0#13 }
  | .txByte => { s.driveButton s.inputs.btnIn with st := sTx }
  | .waitTick => { s.driveButton s.inputs.btnIn with st := sWait }
  | .flashOn => { s.driveButton s.inputs.btnIn with st := sFlash }
  | .flashOff => { s.driveButton s.inputs.btnIn with st := sFlashGap }
  | .overlayLoop => { s.driveButton true with st := sOvlTop }
  | .overlayExit => { s.driveButton false with st := sOvlTop }
  | .chselTest => { s.driveButton s.inputs.btnIn with st := sOvlCh }
  | .chselRepeat => { s.driveButton s.inputs.btnIn with st := sOvlChw }
  | .octDown => { s.driveButton s.inputs.btnIn with st := sOvlOctdn }
  | .octUp => { s.driveButton s.inputs.btnIn with st := sOvlOctup }
  | .assignPress key => s.placeEvent key true
  | .assignRelease key => s.placeEvent key false
  | .encNoteOn line slot => { s.placeEvent line true with pool := poolGranting line slot }
  | .encNoteOff line slot => { s.placeEvent line false with pool := poolOwning line slot }
  | .encCc c =>
    let l := s.cfg.params.chselLine.toList.getD c.toNat 0
    { s.drive { s.inputs with rst := false, keyIn := setLine s.inputs.keyIn l true } with st := sOvlCh, chIdx := c.setWidth 3 }

/-- The state with a table word where the next step meets it: a decodable word's operation placed; a reserved code 11..15 put
into `st`. A word that is no operation and no `st` code has no place in the machine, and leaves the state as it is (log 10). -/
def State.placeTableWord (s : State) (nbits w : Nat) : State :=
  match decodeTableWord nbits w with
  | some i => s.placeInstr i
  | none => if w < 16 ∧ nbits ≠ 5 then { s.driveButton s.inputs.btnIn with st := BitVec.ofNat 4 w } else s

end Sys2Proof.Machine
end

