-- ==== Sys2Proof/Machine/Step.lean ====
section
/-! DEFINITION. One step is one clock cycle (spec/10_state.md R22, R39). -/

namespace Sys2Proof.Machine

/-- One clock cycle: with `rst = 1` every register takes its reset value; otherwise the operation that `st` and its condition
select runs, and a code 11..15 faults (R25). Then the pins take the next cycle's inputs (log 1). -/
def step (s : State) : Host.Outcome State Fault Refusal :=
  if s.inputs.rst then .next s.resetRegisters.nextCycle
  else
    match fetch s with
    | .ok i => onNext State.nextCycle (exec i s)
    | .error _ => .fault (.illegalSequencerState s.st)

/-- The state with a word of spec/opcode_table.json where the next step runs it (log 10). -/
def State.withFetchWord (s : State) (nbits w : Nat) : State := s.placeTableWord nbits w

end Sys2Proof.Machine
end

