-- ==== Sys2Proof/Machine/Outputs.lean ====
section
/-! DEFINITION. The output ports, functions of the registers alone (spec/10_state.md R38), and the byte transfer on the handshake
(spec/42_midi_encoder.md R147). -/

namespace Sys2Proof.Machine

/-- The output ports of R21. -/
structure Outputs where
  /-- `tx_valid`. -/
  txValid : Bool
  /-- `tx_data`. -/
  txData : Byte
  /-- `tx_last`. -/
  txLast : Bool
  /-- `led`. -/
  led : Bool
  /-- `overlay`. -/
  overlay : Bool
  /-- `res_valid`. -/
  resValid : Bool
  /-- `res_kind`. -/
  resKind : BitVec 3
  /-- `res_line`. -/
  resLine : Line
  /-- `res_slot`. -/
  resSlot : SlotIx
deriving DecidableEq, Repr

/-- The outputs in a cycle that starts in this state (R38); `tx_data` is 0 outside `S_TX`. -/
def State.outputs (s : State) : Outputs where
  txValid := s.st == sTx
  txData := if s.st = sTx then s.currentByte else 0#8
  txLast := s.st == sTx && s.atLastByte
  led := s.led
  overlay := s.ovl
  resValid := s.resValid
  resKind := s.resKind
  resLine := s.resLine
  resSlot := s.resSlot

/-- The byte transferred in this cycle: the offered one when `tx_valid = tx_ready = 1` (R66, R147), and none in a cycle with
`rst = 1`, whose transition is not TX_BYTE (R22, R220). DEDUCED (log 20). -/
def State.accepted (s : State) : Option Byte :=
  if s.outputs.txValid && s.inputs.txReady && !s.inputs.rst then some s.outputs.txData else none

/-- The bytes of the message in the buffer, the first `msg_len` of the three (R32). -/
def State.message (s : State) : List Byte := [s.msgB0, s.msgB1, s.msgB2].take s.msgLen.toNat

/-- TransmitterStall: a byte is offered and not accepted (R203). -/
def State.stalled (s : State) : Bool := s.outputs.txValid && !s.inputs.txReady

end Sys2Proof.Machine
end

