-- ==== Sys2Proof/Machine/Script.lean ====
section
/-! DEFINITION. Stimulus scripts (spec/30_encoding.md R93) and the end of a run (spec/70_reset_and_hazards.md R242): the
environment's side of the ports, which drives the pins before each cycle and collects the bytes. -/

namespace Sys2Proof.Machine

/-- The registers an EXPECT line can name (R93, R40). -/
inductive Reg where
  | st | prev | cur | pend | octave | preset | slotV | slotK (i : Nat) | msgLen | msgB0 | msgB1 | msgB2 | txIdx | txRet
  | waitCnt | waitRet | flashCnt | chIdx | led | ovl | resValid | resKind | resLine | resSlot
deriving DecidableEq, Repr

/-- The value of a register as a number; `slot_v` is the vector `s3 s2 s1 s0`. -/
def State.read (s : State) : Reg → Nat
  | .st => s.st.toNat
  | .prev => s.prev.toNat
  | .cur => s.cur.toNat
  | .pend => s.pend.toNat
  | .octave => s.octave.toNat
  | .preset => s.preset.toNat
  | .slotV => s.pool.s0.v.toNat + 2 * s.pool.s1.v.toNat + 4 * s.pool.s2.v.toNat + 8 * s.pool.s3.v.toNat
  | .slotK i => (s.pool.get i).k.toNat
  | .msgLen => s.msgLen.toNat
  | .msgB0 => s.msgB0.toNat
  | .msgB1 => s.msgB1.toNat
  | .msgB2 => s.msgB2.toNat
  | .txIdx => s.txIdx.toNat
  | .txRet => s.txRet.toNat
  | .waitCnt => s.waitCnt.toNat
  | .waitRet => s.waitRet.toNat
  | .flashCnt => s.flashCnt.toNat
  | .chIdx => s.chIdx.toNat
  | .led => s.led.toNat
  | .ovl => s.ovl.toNat
  | .resValid => s.resValid.toNat
  | .resKind => s.resKind.toNat
  | .resLine => s.resLine.toNat
  | .resSlot => s.resSlot.toNat

/-- A command of a stimulus script (R93). -/
inductive Cmd where
  /-- `RESET`: one cycle with `rst = 1`. -/
  | reset
  /-- `KEYS b12..b0`. -/
  | keys (levels : Keys)
  /-- `PRESS L`. -/
  | press (line : Nat)
  /-- `RELEASE L`. -/
  | release (line : Nat)
  /-- `BTN 1`, `BTN 0`. -/
  | btn (level : Bool)
  /-- `READY 1`, `READY 0`. -/
  | ready (level : Bool)
  /-- `TICK EVERY`. -/
  | tickEvery
  /-- `TICK NONE`. -/
  | tickNone
  /-- `RUN n`. -/
  | run (n : Nat)
  /-- `RUN_TO <state>`. -/
  | runTo (code : SeqCode)
  /-- `EXPECT TX b0 b1 ...`. -/
  | expectTx (bytes : List Byte)
  /-- `EXPECT <reg> = v`. -/
  | expectReg (r : Reg) (v : Nat)
deriving DecidableEq, Repr

/-- A run in progress: the machine, the levels the script holds, the bytes accepted since the last `EXPECT TX`, the number of
cycles since the `RESET` it began with, and what has held so far. -/
structure Bench where
  /-- The machine. -/
  machine : State
  /-- The levels last set. -/
  pins : Inputs
  /-- The bytes accepted since the last `EXPECT TX`, first first. -/
  sent : List Byte
  /-- The cycles taken. -/
  cycles : Nat
  /-- Every `EXPECT` so far has held. -/
  expects : Bool
  /-- Every `RUN_TO` so far has reached its named state (R242). -/
  reached : Bool
  /-- No cycle so far has had `st` in 11..15 without `rst` (R244, `NoFault`). -/
  noFault : Bool
deriving DecidableEq, Repr

/-- One cycle with the pins as set, and `rst` as given (R22). A fault keeps the state, until a reset cycle (R242). -/
def Bench.cycle (rst : Bool) (b : Bench) : Bench :=
  let s := b.machine.drive { b.pins with rst := rst }
  match step s with
  | .next t => { b with machine := t, sent := b.sent ++ s.accepted.toList, cycles := b.cycles + 1 }
  | .fault _ => { b with machine := s, cycles := b.cycles + 1, noFault := false }
  | .refused _ => { b with machine := s, cycles := b.cycles + 1, noFault := false }

/-- `n` cycles with `rst = 0`. -/
def Bench.cyclesFor : Nat → Bench → Bench
  | 0, b => b
  | n + 1, b => Bench.cyclesFor n (b.cycle false)

/-- `RUN_TO`: at least one cycle with `rst = 0`, up to the first later cycle that starts in the named state; `bound` bounds the
cycles, since R93 gives `RUN_TO` no bound. DESIGN CHOICE (log 19). -/
def Bench.runTo (code : SeqCode) : Nat → Bench → Bench
  | 0, b => { b with reached := false }
  | bound + 1, b =>
    let b' := b.cycle false
    if b'.machine.st = code then b' else Bench.runTo code bound b'

/-- The effect of one command (R93). -/
def Bench.apply (bound : Nat) (b : Bench) : Cmd → Bench
  | .reset => b.cycle true
  | .keys levels => { b with pins := { b.pins with keyIn := levels } }
  | .press line => { b with pins := { b.pins with keyIn := b.pins.keyIn ||| (1#13 <<< line) } }
  | .release line => { b with pins := { b.pins with keyIn := b.pins.keyIn &&& ~~~(1#13 <<< line) } }
  | .btn level => { b with pins := { b.pins with btnIn := level } }
  | .ready level => { b with pins := { b.pins with txReady := level } }
  | .tickEvery => { b with pins := { b.pins with tickMs := true } }
  | .tickNone => { b with pins := { b.pins with tickMs := false } }
  | .run n => b.cyclesFor n
  | .runTo code => b.runTo code bound
  | .expectTx bytes => { b with sent := [], expects := b.expects && b.sent == bytes }
  | .expectReg r v => { b with expects := b.expects && b.machine.read r == v }

/-- One command of a run; a run whose `RUN_TO` did not reach its state goes no further (log 19). -/
def Bench.command (bound : Nat) (b : Bench) (c : Cmd) : Bench := if b.reached then b.apply bound c else b

/-- A script before its first cycle: the default levels of R93, over a machine in any state. -/
def Bench.before (s : State) : Bench := ⟨s, idleInputs, [], 0, true, true, true⟩

/-- How a run begins (R242; R244, `LaunchReset`): the `RESET` cycle, after which the cycles are counted from 0. -/
def Bench.launch (s : State) : Bench := { (Bench.before s).cycle true with cycles := 0 }

/-- A run (R242): a `RESET`, whatever the state before it, then a finite stimulus script. Its end state is the machine after the
last command's last cycle. `script` is what follows the run's first `RESET`; it may reset again. -/
def runScript (bound : Nat) (script : List Cmd) (s : State) : Bench := script.foldl (Bench.command bound) (Bench.launch s)

/-- The three conditions that R242 puts on the end state of a clean end. -/
def State.cleanEnd (s : State) : Bool := s.st == sIdle && s.pend == 0#13 && !s.outputs.txValid

/-- R242: a run ends cleanly only if its end state is clean and every `RUN_TO` of its script reached its named state. What an
`EXPECT` found does not matter. DEDUCED (log 25). -/
def Bench.endsCleanly (b : Bench) : Bool := b.machine.cleanEnd && b.reached

/-- `S_TX`, `S_WAIT` and the overlay's own codes, in which a run that stops is cut off (R242). DEDUCED (log 25). -/
def State.cutOff (s : State) : Bool := decide (2 ≤ s.st.toNat ∧ s.st.toNat ≤ 10)

/-- What R242 says of a run when its script is over. -/
inductive RunEnd where
  /-- The run ended, and cleanly. -/
  | clean
  /-- The run stopped in `S_TX`, `S_WAIT` or an overlay state: it did not end, and is a prefix only. -/
  | cutOff
  /-- The machine is in a state 11..15, which is never an end state. -/
  | fault
  /-- None of these: the run stopped inside a poll, or a `RUN_TO` did not reach its state. -/
  | notClean
deriving DecidableEq, Repr

/-- The end of a run (R242). -/
def Bench.ending (b : Bench) : RunEnd :=
  if 11 ≤ b.machine.st.toNat then .fault
  else if b.machine.cutOff then .cutOff
  else if b.endsCleanly then .clean
  else .notClean

/-- Every check of the script passed on a run without a fault. -/
def Bench.passed (b : Bench) : Bool := b.expects && b.reached && b.noFault

end Sys2Proof.Machine
end

