-- ==== Sys2Proof/Safety.lean ====
section
/-! DEFINITION. What counts as a legal state and a safe run of the KMB, in the terms the statements use: the invariants of the
spec's laws, the launch premises of spec/70_reset_and_hazards.md R244, and finite and infinite runs. -/

namespace Sys2Proof.Machine

/-- The sequencer registers hold codes that the transitions write (R24, R25, R32, R34). -/
abbrev State.seqLegal (s : State) : Prop :=
  s.st.toNat ≤ 10 ∧ s.txRet ∈ [sIdle, sScan, sOvlChw] ∧
    s.waitRet ∈ [sIdle, sFlash, sFlashGap, sOvlTop, sOvlCh, sOvlOctup]

/-- A Control-Change is being sent or its repeat delay is due (R167, R168). -/
abbrev State.inRepeat (s : State) : Prop := s.st = sOvlChw ∨ (s.st = sTx ∧ s.txRet = sOvlChw)

/-- A flash is lit: between FLASH_ON and the end of FLASH_OFF (R162, R163). -/
abbrev State.inFlash (s : State) : Prop := s.st = sFlashGap ∨ (s.st = sWait ∧ s.waitRet = sFlashGap)

/-- The cycle starts a wait: for a lit flash, its dark phase, the overlay's exit, a repeat delay
after a Control-Change, or a held octave line (R162, R163, R166, R168, R169, R170). -/
abbrev State.loadsWait (s : State) : Prop :=
  (s.st = sFlash ∧ s.flashCnt ≠ 0#2) ∨ s.st = sFlashGap ∨ (s.st = sOvlTop ∧ s.inputs.btnIn = false) ∨ s.st = sOvlChw ∨
    (s.st = sOvlOctdn ∧ s.keyLevel s.cfg.params.octDownLine = true) ∨
    (s.st = sOvlOctup ∧ s.keyLevel s.cfg.params.octUpLine = true)

/-- The counters are in the ranges of R32 and R35, and where the rules say they are entered non-zero or below 4 (R163, R168). -/
abbrev State.countersLegal (s : State) : Prop :=
  (s.msgLen = 2#2 ∨ s.msgLen = 3#2) ∧ s.txIdx.toNat < s.msgLen.toNat ∧ s.chIdx.toNat ≤ 4 ∧
    (s.inRepeat → s.chIdx.toNat ≤ 3) ∧ (s.inFlash → s.flashCnt ≠ 0#2)

/-- R171: `OCT_MIN <= octave <= OCT_MAX`. -/
abbrev State.octaveInBounds (s : State) : Prop :=
  s.cfg.params.octMin ≤ s.octave.toNat ∧ s.octave.toNat ≤ s.cfg.params.octMax

/-- R31: an owned slot holds a line 0..12, a FREE slot holds 0. -/
abbrev Pool.canonical (p : Pool) : Prop :=
  ∀ i < 4, if (p.get i).v then (p.get i).k.toNat ≤ 12 else (p.get i).k = 0#4

/-- R123: no two valid slots hold the same key. -/
abbrev Pool.injective (p : Pool) : Prop :=
  ∀ i < 4, ∀ j < 4, i ≠ j → (p.get i).v = true → (p.get j).v = true → (p.get i).k ≠ (p.get j).k

/-- R31 and R123 together. -/
abbrev Pool.legal (p : Pool) : Prop := p.canonical ∧ p.injective

/-- A poll is in progress: `S_SCAN`, or `S_TX` for one of its messages (R100). -/
abbrev State.inPoll (s : State) : Prop := s.st = sScan ∨ (s.st = sTx ∧ s.txRet = sScan)

/-- The level of line `l` that the poll has processed so far: the previous sample's where an edge is pending, else the current
one's (R103, R107). -/
def State.seenLevel (s : State) (l : Nat) : Bool := if s.pend.getLsbD l then s.prev.getLsbD l else s.cur.getLsbD l

/-- R101, R106, R107, R111: a pending bit is an edge of a key line; outside a poll nothing is pending and the two samples agree;
a key that owns a slot is a key line whose last processed level is pressed. -/
abbrev State.scanLegal (s : State) : Prop :=
  (∀ l < 13, s.pend.getLsbD l = true → (keyMask s.cfg).getLsbD l = true ∧ s.prev.getLsbD l ≠ s.cur.getLsbD l) ∧
    (¬ s.inPoll → s.pend = 0#13 ∧ s.prev = s.cur) ∧
    (∀ i < 4, (s.pool.get i).v = true →
      (keyMask s.cfg).getLsbD (s.pool.get i).k.toNat = true ∧ s.seenLevel (s.pool.get i).k.toNat = true)

/-- The overlay's states, from the end of OVERLAY_ENTER to OVERLAY_EXIT (R160, R207). -/
abbrev State.inOverlay (s : State) : Prop :=
  (4 ≤ s.st.toNat ∧ s.st.toNat ≤ 10) ∨ (s.st = sTx ∧ s.txRet = sOvlChw) ∨ (s.st = sWait ∧ s.waitRet ≠ sIdle)

/-- The settle wait after the overlay (R166, R207). -/
abbrev State.inSettle (s : State) : Prop := s.st = sWait ∧ s.waitRet = sIdle

/-- R207: `ovl` is 1 exactly in the overlay's states; R164: `led` is 1 exactly while a flash is lit. -/
abbrev State.modeLegal (s : State) : Prop := (s.ovl = true ↔ s.inOverlay) ∧ (s.led = true ↔ s.inFlash)

/-- R82, R90: what `S_TX` offers reads as one whole message of the KMB. -/
abbrev State.bufferLegal (s : State) : Prop :=
  s.st = sTx → (decodeMessage s.cfg.params.ccLen s.message).toOption.map Prod.snd = some []

/-- R200: `res_kind` is one of the codes 0..4 and `res_line` a key line; R127: no call reports REUSE. -/
abbrev State.resultLegal (s : State) : Prop :=
  s.resKind.toNat ≤ 4 ∧ s.resLine.toNat ≤ 12 ∧ (s.resValid = true → s.resKind ≠ ResKind.reuse.code)

/-- The invariant of the KMB: every law the spec states of all reachable states, over one state. -/
abbrev State.legal (s : State) : Prop :=
  s.seqLegal ∧ s.countersLegal ∧ s.octaveInBounds ∧ s.pool.legal ∧ s.scanLegal ∧ s.modeLegal ∧ s.bufferLegal ∧ s.resultLegal

/-- The registers of R40 agree; the model's own fields may differ. -/
def State.sameRegisters (s t : State) : Prop :=
  { s with cfg := t.cfg, inputs := t.inputs, stim := t.stim, freeIdx := t.freeIdx } = t

/-- The inputs of this and the following cycles that are given. -/
def State.upcoming (s : State) : List Inputs := s.inputs :: s.stim

/-- The inputs of the next `n` cycles are given, and each satisfies `P`. -/
abbrev State.givenFor (s : State) (n : Nat) (P : Inputs → Prop) : Prop :=
  n ≤ s.upcoming.length ∧ ∀ i ∈ s.upcoming.take n, P i

/-- The state after `n` cycles. -/
def State.after (s : State) (n : Nat) : StepOutcome := Sys2Proof.core.run n s

/-- The bytes accepted in the next `n` cycles, first first. -/
def State.acceptedIn (s : State) : Nat → List Byte
  | 0 => []
  | n + 1 =>
    match step s with
    | .next t => s.accepted.toList ++ State.acceptedIn t n
    | .fault _ => []
    | .refused _ => []

/-- A sequence of Voice Arbiter calls, each with its `pressed` bit and its line (R121, R122). -/
def arbiterCalls : List (Bool × Line) → State → StepOutcome
  | [], s => .next s
  | (pressed, key) :: rest, s =>
    match exec (if pressed then .assignPress key else .assignRelease key) s with
    | .next t => arbiterCalls rest t
    | .fault r => .fault r
    | .refused r => .refused r

/-- An infinite run: each state's registers and parameters are those of a step from the one before, and the environment drives
any pins (R22, R243). Where a step stops, the registers are kept until a reset cycle (R242). -/
def IsRun (r : Nat → State) : Prop :=
  ∀ n, (r (n + 1)).cfg = (r n).cfg ∧
    match step (r n) with
    | .next t => t.sameRegisters (r (n + 1))
    | .fault _ => (r n).sameRegisters (r (n + 1))
    | .refused _ => (r n).sameRegisters (r (n + 1))

/-- `LaunchReset` (R244): the run begins in the reset state of R40 for its parameters. -/
def LaunchReset (r : Nat → State) : Prop :=
  (State.resetWith (r 0).cfg (r 0).inputs (r 0).stim (r 0).freeIdx) = r 0

/-- `NoFault` (R244): no cycle has `st` in 11..15. -/
def NoFault (r : Nat → State) : Prop := ∀ n, (r n).st.toNat ≤ 10

/-- The environment asserts no reset. -/
def NoReset (r : Nat → State) : Prop := ∀ n, (r n).inputs.rst = false

/-- The fairness duty on `tick_ms` (R243): it pulses infinitely often. -/
def FairTick (r : Nat → State) : Prop := ∀ n, ∃ m ≥ n, (r m).inputs.tickMs = true

/-- The fairness duty on `tx_ready` (R243): it is asserted infinitely often while `tx_valid = 1`. -/
def FairReady (r : Nat → State) : Prop := ∀ n, ∃ m ≥ n, (r m).outputs.txValid = false ∨ (r m).inputs.txReady = true

/-- `Fair` (R244): the two fairness duties of R243. -/
def Fair (r : Nat → State) : Prop := FairTick r ∧ FairReady r

/-- A hang (R242, R203, R208): from some cycle on the run is in `S_TX` with `tx_ready = 0`, or in `S_WAIT` with `tick_ms = 0`,
forever. -/
def Hangs (r : Nat → State) : Prop :=
  (∃ n, ∀ m ≥ n, (r m).st = sTx ∧ (r m).inputs.txReady = false) ∨
    ∃ n, ∀ m ≥ n, (r m).st = sWait ∧ (r m).inputs.tickMs = false

end Sys2Proof.Machine
end

