-- ==== Sys2Proof/Certificates/Slice0/Obligations.lean ====
section
/-! DEFINITION. The statements about the KMB, from the numbered rules of spec/. A statement of an operation's result is an
equation with the whole next state, so it says completion, result and frame at once: what the record update does not name is
unchanged. Statements about every state hold in states no run reaches too; those that need the reachable ones take an
invariant of Sys2Proof/Safety.lean as a premise, and that invariant is a statement of its own. -/

open Sys2Proof Sys2Proof.Machine

/-! ## The cycle -/

/-- R22, R39: without `rst`, a step is exec of the operation the selector decodes to; around it the step only lets the pins
move on (`nextCycle`, which is the model's own: log 1). -/
def Obligations.StepRunsSelectedOperation : Prop :=
  ∀ (s : State) (i : Instr), s.inputs.rst = false →
    decode (.st4 s.st s.inputs.btnIn (s.pend != 0#13)) = .ok i →
    step s = match exec i s with
      | .next t => .next t.nextCycle
      | .fault r => .fault r
      | .refused r => .refused r

/-- The model's own convention (log 1, log 2), no rule of the spec: at the end of a cycle the pins take the next given inputs,
or a free value where none is given, and nothing else changes. -/
def Obligations.PinsTakeGivenInputsThenFreeOnes : Prop :=
  ∀ s : State,
    (∀ i rest, s.stim = i :: rest → s.nextCycle = { s with inputs := i, stim := rest }) ∧
    (s.stim = [] → s.nextCycle = { s with inputs := Config.freeInputs s.freeIdx, freeIdx := s.freeIdx + 1 })

/-- R92: the three tables of the operation map. That a Note selector carries its line beside the status byte is the model's
choice (log 8). -/
def Obligations.OperationMapIsTheTable : Prop :=
  (∀ b e : Bool,
    decode (.st4 0#4 true e) = .ok .overlayEnter ∧ decode (.st4 0#4 false e) = .ok .pollSample ∧
    decode (.st4 1#4 b true) = .ok .scanEdge ∧ decode (.st4 1#4 b false) = .ok .scanEnd ∧
    decode (.st4 2#4 b e) = .ok .txByte ∧ decode (.st4 3#4 b e) = .ok .waitTick ∧
    decode (.st4 4#4 b e) = .ok .flashOn ∧ decode (.st4 5#4 b e) = .ok .flashOff ∧
    decode (.st4 6#4 true e) = .ok .overlayLoop ∧ decode (.st4 6#4 false e) = .ok .overlayExit ∧
    decode (.st4 7#4 b e) = .ok .chselTest ∧ decode (.st4 8#4 b e) = .ok .chselRepeat ∧
    decode (.st4 9#4 b e) = .ok .octDown ∧ decode (.st4 10#4 b e) = .ok .octUp) ∧
  (∀ line : Line, line.toNat ≤ 12 →
    decode (.evt5 (1#1 ++ line)) = .ok (.assignPress line) ∧ decode (.evt5 (0#1 ++ line)) = .ok (.assignRelease line)) ∧
  (∀ (line : Line) (c : SlotIx), line.toNat ≤ 12 →
    decode (.note (0b100100#6 ++ c) line) = .ok (.encNoteOn line c) ∧
    decode (.note (0b100000#6 ++ c) line) = .ok (.encNoteOff line c) ∧
    decode (.control (0b101100#6 ++ c)) = .ok (.encCc c))

/-- R220, R40: `rst` puts every register into its reset value, whatever the state; the parameters stay as they are. -/
def Obligations.ResetCycleRestoresEveryRegister : Prop :=
  ∀ s : State, s.inputs.rst = true →
    ∃ t, step s = .next t ∧ t.st = 0#4 ∧ t.prev = 0#13 ∧ t.cur = 0#13 ∧ t.pend = 0#13 ∧
      t.octave.toNat = s.cfg.params.octReset ∧ t.preset = 0#2 ∧
      (∀ i < 4, (t.pool.get i).v = false ∧ (t.pool.get i).k = 0#4) ∧
      t.msgLen = 3#2 ∧ t.msgB0 = 0#8 ∧ t.msgB1 = 0#8 ∧ t.msgB2 = 0#8 ∧ t.txIdx = 0#2 ∧ t.txRet = 0#4 ∧
      t.waitCnt = 0#16 ∧ t.waitRet = 0#4 ∧ t.flashCnt = 0#2 ∧ t.chIdx = 0#3 ∧ t.led = false ∧ t.ovl = false ∧
      t.resValid = false ∧ t.resKind = 0#3 ∧ t.resLine = 0#4 ∧ t.resSlot = 0#2 ∧ t.cfg = s.cfg

/-- R40, for the machine's own reset state, with the default `OCT_RESET = 5`. -/
def Obligations.ResetStateIsTheResetTable : Prop :=
  State.reset.st = 0#4 ∧ State.reset.prev = 0#13 ∧ State.reset.cur = 0#13 ∧ State.reset.pend = 0#13 ∧
    State.reset.octave = 5#4 ∧ State.reset.preset = 0#2 ∧
    (∀ i < 4, State.reset.pool.get i = ⟨false, 0#4⟩) ∧ State.reset.msgLen = 3#2 ∧ State.reset.msgB0 = 0#8 ∧
    State.reset.msgB1 = 0#8 ∧ State.reset.msgB2 = 0#8 ∧ State.reset.txIdx = 0#2 ∧ State.reset.txRet = 0#4 ∧
    State.reset.waitCnt = 0#16 ∧ State.reset.waitRet = 0#4 ∧ State.reset.flashCnt = 0#2 ∧ State.reset.chIdx = 0#3 ∧
    State.reset.led = false ∧ State.reset.ovl = false ∧ State.reset.resValid = false ∧ State.reset.resKind = 0#3 ∧
    State.reset.resLine = 0#4 ∧ State.reset.resSlot = 0#2

/-- R25: the codes 11..15 fault, reset writes 0, and from legal sequencer registers no step writes such a code. -/
def Obligations.ReservedSequencerCodesFaultAndAreNeverWritten : Prop :=
  (∀ s : State, s.inputs.rst = false → 11 ≤ s.st.toNat → step s = .fault (.illegalSequencerState s.st)) ∧
  (∀ s : State, s.inputs.rst = true → ∃ t, step s = .next t ∧ t.st = 0#4) ∧
  (∀ s t : State, s.seqLegal → step s = .next t → t.st.toNat ≤ 10)

/-- R242: in every state with a sequencer code the rules use, and in every cycle with `rst`, the step goes on; and no step of
any state is ever a refusal. -/
def Obligations.StepGoesOnOutsideReservedCodes : Prop :=
  ∀ s : State, ((s.st.toNat ≤ 10 ∨ s.inputs.rst = true) → ∃ t, step s = .next t) ∧ ∀ r, step s ≠ .refused r

/-- R38: the outputs, as functions of the registers alone. -/
def Obligations.OutputsAreMooreFunctions : Prop :=
  ∀ s : State,
    (s.outputs.txValid = true ↔ s.st = 2#4) ∧
    (s.st ≠ 2#4 → s.outputs.txData = 0#8 ∧ s.outputs.txLast = false) ∧
    (s.st = 2#4 → (s.txIdx = 0#2 → s.outputs.txData = s.msgB0) ∧ (s.txIdx = 1#2 → s.outputs.txData = s.msgB1) ∧
      (s.txIdx = 2#2 → s.outputs.txData = s.msgB2) ∧
      (s.msgLen ≠ 0#2 → (s.outputs.txLast = true ↔ s.txIdx.toNat = s.msgLen.toNat - 1))) ∧
    s.outputs.led = s.led ∧ s.outputs.overlay = s.ovl ∧ s.outputs.resValid = s.resValid ∧
    s.outputs.resKind = s.resKind ∧ s.outputs.resLine = s.resLine ∧ s.outputs.resSlot = s.resSlot ∧
    ∀ i : Inputs, (s.drive i).outputs = s.outputs

/-! ## Key Scanner -/

/-- R101: POLL_SAMPLE. -/
def Obligations.PollSampleResult : Prop :=
  (∀ e, decode (.st4 0#4 false e) = .ok .pollSample) ∧
  ∀ s : State, exec .pollSample s = .next { s with
    cur := s.inputs.keyIn
    pend := BitVec.ofNat 13 s.cfg.params.keyMask &&& (s.prev ^^^ s.inputs.keyIn)
    st := 1#4
    resValid := false }

/-- R102: bit by bit, the edge mask holds the key lines whose level changed; R111: the sample keeps every line. -/
def Obligations.EdgeMaskHoldsChangedKeyLines : Prop :=
  ∀ s : State, ∃ t, exec .pollSample s = .next t ∧ ∀ l < 13,
    t.cur.getLsbD l = s.inputs.keyIn.getLsbD l ∧
    (t.pend.getLsbD l = true ↔ (s.cfg.params.keyMask.testBit l = true ∧ s.prev.getLsbD l ≠ s.inputs.keyIn.getLsbD l))

/-- R103: SCAN_EDGE is the arbiter call of the lowest pending line's event word, then, where a slot results, the encoding of
its Note message and the move to `S_TX`. What those calls do is said by their own statements. That an arbiter call run by
itself also writes R103's report of it to the result registers is the model's choice (log 7). -/
def Obligations.ScanEdgeIsAssignThenEncode : Prop :=
  (∀ b, decode (.st4 1#4 b true) = .ok .scanEdge) ∧
  ∀ (s : State) (line : Nat), line < 13 → s.pend.getLsbD line = true → (∀ j < line, s.pend.getLsbD j = false) →
    ∃ (call : Instr) (a : State),
      decode (.evt5 (BitVec.ofBool (s.cur.getLsbD line) ++ BitVec.ofNat 4 line)) = .ok call ∧ exec call s = .next a ∧
      a.resValid = true ∧ a.resLine = BitVec.ofNat 4 line ∧ ((a.resKind = 3#3 ∨ a.resKind = 4#3) → a.resSlot = 0#2) ∧
      ((a.resKind = 3#3 ∨ a.resKind = 4#3) →
        exec .scanEdge s = .next { a with pend := s.pend &&& ~~~(1#13 <<< line) }) ∧
      (¬ (a.resKind = 3#3 ∨ a.resKind = 4#3) →
        ∃ m, exec (if s.cur.getLsbD line then .encNoteOn (BitVec.ofNat 4 line) a.resSlot
            else .encNoteOff (BitVec.ofNat 4 line) a.resSlot) { a with pend := s.pend &&& ~~~(1#13 <<< line) } = .next m ∧
          exec .scanEdge s = .next { m with txIdx := 0#2, txRet := 1#4, st := 2#4 })

/-- R104: a SCAN_EDGE processes the lowest pending line, clears its bit and keeps every other. -/
def Obligations.ScanEdgeClearsExactlyTheLowestEdge : Prop :=
  ∀ (s : State), s.pend ≠ 0#13 →
    ∃ (t : State) (line : Nat), exec .scanEdge s = .next t ∧ line < 13 ∧ s.pend.getLsbD line = true ∧
      (∀ j < line, s.pend.getLsbD j = false) ∧
      t.resValid = true ∧ t.resLine.toNat = line ∧ t.prev = s.prev ∧ t.cur = s.cur ∧
      ∀ j < 13, (t.pend.getLsbD j = true ↔ (s.pend.getLsbD j = true ∧ j ≠ line))

/-- R10, spec/93_implementation_defined.md I6: SCAN_EDGE run with nothing pending would evaluate `lowest(0)`, and faults. -/
def Obligations.ScanEdgeWithoutEdgeFaults : Prop :=
  ∀ s : State, s.pend = 0#13 → exec .scanEdge s = .fault .lowestOfZero

/-- R106: SCAN_END. -/
def Obligations.ScanEndResult : Prop :=
  (∀ b, decode (.st4 1#4 b false) = .ok .scanEnd) ∧
  ∀ s : State, exec .scanEnd s = .next { s with prev := s.cur, st := 0#4, resValid := false }

/-- R241, R104, R105: with the transmitter always ready and no reset, a poll in `S_SCAN` with E edges pending ends within
1 + 4E cycles (one for SCAN_END, one for each edge and three for each message), back in `S_IDLE` with the sample stored. -/
def Obligations.PollCompletesWithinItsCycles : Prop :=
  ∀ s : State, s.st = 1#4 →
    s.givenFor (1 + 4 * (List.range 13).countP s.pend.getLsbD) (fun i => i.rst = false ∧ i.txReady = true) →
    ∃ n t, n ≤ 1 + 4 * (List.range 13).countP s.pend.getLsbD ∧ s.after n = .next t ∧
      t.st = 0#4 ∧ t.pend = 0#13 ∧ t.cur = s.cur ∧ t.prev = s.cur ∧ t.octave = s.octave ∧ t.preset = s.preset

/-! ## Voice Arbiter -/

/-- R121: ASSIGN_PRESS, the event word `1 LLLL`, reuses the key's slot, else claims the lowest free slot, else overflows.
That the call run by itself also writes R103's report of it to the result registers is the model's choice (log 7). -/
def Obligations.AssignPressResult : Prop :=
  ∀ (s : State) (key : Line), key.toNat ≤ 12 → decode (.evt5 (1#1 ++ key)) = .ok (.assignPress key) ∧
    (∀ i < 4, ((s.pool.get i).v = true ∧ (s.pool.get i).k = key) →
      (∀ j < i, ¬ ((s.pool.get j).v = true ∧ (s.pool.get j).k = key)) →
      exec (.assignPress key) s = .next { s with
        resValid := true, resKind := 1#3, resLine := key, resSlot := BitVec.ofNat 2 i }) ∧
    ((∀ j < 4, ¬ ((s.pool.get j).v = true ∧ (s.pool.get j).k = key)) →
      (∀ i < 4, (s.pool.get i).v = false → (∀ j < i, (s.pool.get j).v = true) →
        exec (.assignPress key) s = .next { s with
          pool := s.pool.set i ⟨true, key⟩
          resValid := true, resKind := 0#3, resLine := key, resSlot := BitVec.ofNat 2 i }) ∧
      ((∀ j < 4, (s.pool.get j).v = true) →
        exec (.assignPress key) s = .next { s with
          resValid := true, resKind := 3#3, resLine := key, resSlot := 0#2 }))

/-- R122: ASSIGN_RELEASE, the event word `0 LLLL`, frees the key's slot, else is spurious. That the call run by
itself also writes R103's report of it to the result registers is the model's choice (log 7). -/
def Obligations.AssignReleaseResult : Prop :=
  ∀ (s : State) (key : Line), key.toNat ≤ 12 → decode (.evt5 (0#1 ++ key)) = .ok (.assignRelease key) ∧
    (∀ i < 4, ((s.pool.get i).v = true ∧ (s.pool.get i).k = key) →
      (∀ j < i, ¬ ((s.pool.get j).v = true ∧ (s.pool.get j).k = key)) →
      exec (.assignRelease key) s = .next { s with
        pool := s.pool.set i ⟨false, 0#4⟩
        resValid := true, resKind := 2#3, resLine := key, resSlot := BitVec.ofNat 2 i }) ∧
    ((∀ j < 4, ¬ ((s.pool.get j).v = true ∧ (s.pool.get j).k = key)) →
      exec (.assignRelease key) s = .next { s with
        resValid := true, resKind := 4#3, resLine := key, resSlot := 0#2 })

/-- R89: the lines 13..15 are refused, and the scanner's event word never holds one. -/
def Obligations.IllegalEventLinesAreRefused : Prop :=
  (∀ (s : State) (key : Line), 13 ≤ key.toNat →
    exec (.assignPress key) s = .refused (.illegalLine key) ∧ exec (.assignRelease key) s = .refused (.illegalLine key) ∧
    decode (.evt5 (1#1 ++ key)) = .error (.illegalLine key) ∧ decode (.evt5 (0#1 ++ key)) = .error (.illegalLine key)) ∧
  (∀ (s : State) (evt : BitVec 5), s.event = some evt → (evt.setWidth 4).toNat ≤ 12)

/-- R31, R123: the reset pool is canonical with distinct owners, and every step keeps it so. -/
def Obligations.StepKeepsPoolInjective : Prop :=
  (∀ (c : Config) (i : Inputs) (l : List Inputs) (k : Nat), (State.resetWith c i l k).pool.legal) ∧
  ∀ s t : State, s.pool.legal → step s = .next t → t.pool.legal

/-- R124: if a press grants slot `i` to a key, then after any calls for other keys a release of that key frees slot `i`. The
slot is read from the report of the call run by itself, which is the model's choice (log 7). -/
def Obligations.ReleaseFreesTheGrantedSlot : Prop :=
  ∀ (s t u : State) (key : Line) (calls : List (Bool × Line)), exec (.assignPress key) s = .next t → t.resKind ≠ 3#3 →
    (∀ c ∈ calls, c.2 ≠ key) → arbiterCalls calls t = .next u →
    ∃ w, exec (.assignRelease key) u = .next w ∧ w.resKind = 2#3 ∧ w.resLine = key ∧ w.resSlot = t.resSlot ∧
      (w.pool.get t.resSlot.toNat).v = false

/-! ## MIDI Encoder and Transmitter -/

/-- R140: ENC_NOTE_ON, for every key line and slot. -/
def Obligations.NoteOnEncoding : Prop :=
  ∀ (s : State) (line : Fin 13) (slot : SlotIx),
    exec (.encNoteOn (BitVec.ofNat 4 line) slot) s = .next { s with
    msgLen := 3#2
    msgB0 := 0x90#8 ||| slot.setWidth 8
    msgB1 := BitVec.ofNat 8 (s.cfg.params.noteOffset[line] + s.octave.toNat * 12)
    msgB2 := BitVec.ofNat 8 s.cfg.params.vel[line] }

/-- R141: ENC_NOTE_OFF, with the octave as it is now and the same table velocity. -/
def Obligations.NoteOffEncoding : Prop :=
  ∀ (s : State) (line : Fin 13) (slot : SlotIx),
    exec (.encNoteOff (BitVec.ofNat 4 line) slot) s = .next { s with
    msgLen := 3#2
    msgB0 := 0x80#8 ||| slot.setWidth 8
    msgB1 := BitVec.ofNat 8 (s.cfg.params.noteOffset[line] + s.octave.toNat * 12)
    msgB2 := BitVec.ofNat 8 s.cfg.params.vel[line] }

/-- R145: ENC_CC, in its two lengths. -/
def Obligations.ControlChangeEncoding : Prop :=
  ∀ (s : State) (c : SlotIx), decode (.control (0b101100#6 ++ c)) = .ok (.encCc c) ∧
    (s.cfg.params.ccLen = 2 → exec (.encCc c) s = .next { s with
      msgLen := 2#2, msgB0 := 0xB0#8 ||| c.setWidth 8, msgB1 := s.preset.setWidth 8, msgB2 := 0#8 }) ∧
    (s.cfg.params.ccLen = 3 → exec (.encCc c) s = .next { s with
      msgLen := 3#2, msgB0 := 0xB0#8 ||| c.setWidth 8, msgB1 := BitVec.ofNat 8 s.cfg.params.ccCtrl
      msgB2 := s.preset.setWidth 8 })

/-- R142, R82: with the octave in its bounds, the note byte is the exact sum and both data bytes of a Note message are at most
127, whichever of the two messages it is. -/
def Obligations.NoteDataBytesAreExactAndLegal : Prop :=
  ∀ (s : State) (line : Fin 13) (slot : SlotIx), s.octaveInBounds →
    ∃ t u, exec (.encNoteOn (BitVec.ofNat 4 line) slot) s = .next t ∧
      exec (.encNoteOff (BitVec.ofNat 4 line) slot) s = .next u ∧
      t.msgB1.toNat = s.cfg.params.noteOffset[line] + s.octave.toNat * 12 ∧ u.msgB1 = t.msgB1 ∧ t.msgB1.toNat ≤ 127 ∧
      t.msgB2.toNat = s.cfg.params.vel[line] ∧ u.msgB2 = t.msgB2 ∧ t.msgB2.toNat ≤ 127

/-- The model's choice (log 13): the two Note encoders refuse the operand lines 13..15, which have no table entry. -/
def Obligations.EncodersRefuseLinesOutsideTheTables : Prop :=
  ∀ (s : State) (line : Line) (slot : SlotIx), 13 ≤ line.toNat →
    exec (.encNoteOn line slot) s = .refused (.illegalLine line) ∧
    exec (.encNoteOff line slot) s = .refused (.illegalLine line)

/-- R147: TX_BYTE, for the indices of the buffer's three bytes. -/
def Obligations.TxByteResult : Prop :=
  (∀ b e, decode (.st4 2#4 b e) = .ok .txByte) ∧
  ∀ s : State, s.txIdx.toNat ≤ 2 →
    (s.st = 2#4 → s.outputs.txValid = true ∧ [s.msgB0, s.msgB1, s.msgB2][s.txIdx.toNat]? = some s.outputs.txData ∧
      (s.outputs.txLast = true ↔ s.txIdx.toNat + 1 = s.msgLen.toNat)) ∧
    (s.inputs.txReady = true → s.txIdx.toNat + 1 = s.msgLen.toNat →
      exec .txByte s = .next { s with txIdx := 0#2, st := s.txRet, resValid := false }) ∧
    (s.inputs.txReady = true → s.txIdx.toNat + 1 ≠ s.msgLen.toNat →
      exec .txByte s = .next { s with txIdx := BitVec.ofNat 2 (s.txIdx.toNat + 1), resValid := false }) ∧
    (s.inputs.txReady = false → exec .txByte s = .next { s with resValid := false })

/-- R148, R62: from the start of a message, whatever cycles the transmitter is ready in, the bytes accepted so far are the
message's first bytes in order, one for each ready cycle. -/
def Obligations.MessageLeavesVerbatimInOrder : Prop :=
  ∀ (s : State) (n : Nat), s.st = 2#4 → s.txIdx = 0#2 → (s.msgLen = 2#2 ∨ s.msgLen = 3#2) →
    s.givenFor n (fun i => i.rst = false) → (s.upcoming.take n).countP (·.txReady) ≤ s.msgLen.toNat →
    s.acceptedIn n = s.message.take ((s.upcoming.take n).countP (·.txReady))

/-- R147, R148: a message whose last byte has just been accepted hands the sequencer to `tx_ret`, everything else but the
result flag and the pins as it was when the message began. -/
def Obligations.MessageEndReturnsToCaller : Prop :=
  ∀ (s : State) (n : Nat), s.st = 2#4 → s.txIdx = 0#2 → (s.msgLen = 2#2 ∨ s.msgLen = 3#2) →
    s.givenFor (n + 1) (fun i => i.rst = false) →
    (s.upcoming.take n).countP (·.txReady) + 1 = s.msgLen.toNat →
    (s.upcoming.take (n + 1)).countP (·.txReady) = s.msgLen.toNat →
    ∃ t, s.after (n + 1) = .next t ∧
      t = { s with st := s.txRet, resValid := false, inputs := t.inputs, stim := t.stim, freeIdx := t.freeIdx }

/-- R149, R203: while `tx_ready` is 0 the machine stays in `S_TX`, for any number of cycles, and changes nothing but the
result flag. -/
def Obligations.TransmitterStallHoldsTheState : Prop :=
  ∀ (s : State) (n : Nat), s.st = 2#4 → s.givenFor n (fun i => i.rst = false ∧ i.txReady = false) →
    ∃ t, s.after n = .next t ∧ s.acceptedIn n = [] ∧
      t = { s with resValid := t.resValid, inputs := t.inputs, stim := t.stim, freeIdx := t.freeIdx }

/-- R82, R90: in a legal state, the byte `S_TX` offers first is a status byte 80..83, 90..93 or B0..B3, and every later one a
data byte. -/
def Obligations.OfferedBytesKeepMidiFraming : Prop :=
  ∀ s : State, s.legal → s.st = 2#4 →
    (s.txIdx = 0#2 → s.outputs.txData ∈ [0x80#8, 0x81#8, 0x82#8, 0x83#8, 0x90#8, 0x91#8, 0x92#8, 0x93#8,
      0xB0#8, 0xB1#8, 0xB2#8, 0xB3#8]) ∧
    (s.txIdx ≠ 0#2 → s.outputs.txData.toNat ≤ 127)

/-! ## Mode state machine -/

/-- R161: OVERLAY_ENTER. -/
def Obligations.OverlayEnterResult : Prop :=
  (∀ e, decode (.st4 0#4 true e) = .ok .overlayEnter) ∧
  ∀ s : State, exec .overlayEnter s = .next { s with ovl := true, flashCnt := s.preset, st := 4#4, resValid := false }

/-- R162: FLASH_ON. -/
def Obligations.FlashOnResult : Prop :=
  (∀ b e, decode (.st4 4#4 b e) = .ok .flashOn) ∧
  ∀ s : State,
    (s.flashCnt = 0#2 → exec .flashOn s = .next { s with st := 6#4, resValid := false }) ∧
    (s.flashCnt ≠ 0#2 → exec .flashOn s = .next { s with
      led := true, waitCnt := BitVec.ofNat 16 s.cfg.params.flashOnMs, waitRet := 5#4, st := 3#4, resValid := false })

/-- R163: FLASH_OFF, where the rule says it is entered. -/
def Obligations.FlashOffResult : Prop :=
  (∀ b e, decode (.st4 5#4 b e) = .ok .flashOff) ∧
  ∀ s : State, 1 ≤ s.flashCnt.toNat → exec .flashOff s = .next { s with
    led := false, flashCnt := BitVec.ofNat 2 (s.flashCnt.toNat - 1)
    waitCnt := BitVec.ofNat 16 s.cfg.params.flashOffMs, waitRet := 4#4, st := 3#4, resValid := false }

/-- R165: OVERLAY_LOOP. -/
def Obligations.OverlayLoopResult : Prop :=
  (∀ e, decode (.st4 6#4 true e) = .ok .overlayLoop) ∧
  ∀ s : State, exec .overlayLoop s = .next { s with chIdx := 0#3, st := 7#4, resValid := false }

/-- R166: OVERLAY_EXIT. -/
def Obligations.OverlayExitResult : Prop :=
  (∀ e, decode (.st4 6#4 false e) = .ok .overlayExit) ∧
  ∀ s : State, exec .overlayExit s = .next { s with
    ovl := false, preset := BitVec.ofNat 2 ((s.preset.toNat + 1) % 4)
    waitCnt := BitVec.ofNat 16 s.cfg.params.settleMs, waitRet := 0#4, st := 3#4, resValid := false }

/-- R167: CHSEL_TEST: all four tested; or line `CHSEL_LINE[c]` held, and its Control-Change goes to `S_TX`; or the next line. -/
def Obligations.ChselTestResult : Prop :=
  (∀ b e, decode (.st4 7#4 b e) = .ok .chselTest) ∧
  ∀ s : State,
    (s.chIdx = 4#3 → exec .chselTest s = .next { s with st := 9#4, resValid := false }) ∧
    ∀ c : Fin 4, s.chIdx = BitVec.ofNat 3 c →
      (s.inputs.keyIn.getLsbD s.cfg.params.chselLine[c] = true →
        ∃ m, exec (.encCc (BitVec.ofNat 2 c)) s = .next m ∧
          exec .chselTest s = .next { m with txIdx := 0#2, txRet := 8#4, st := 2#4, resValid := false }) ∧
      (s.inputs.keyIn.getLsbD s.cfg.params.chselLine[c] = false →
        exec .chselTest s = .next { s with chIdx := BitVec.ofNat 3 (c + 1), resValid := false })

/-- R168: CHSEL_REPEAT, for every value of `ch_idx` whose successor the register holds. -/
def Obligations.ChselRepeatResult : Prop :=
  (∀ b e, decode (.st4 8#4 b e) = .ok .chselRepeat) ∧
  ∀ s : State, s.chIdx.toNat ≤ 6 → exec .chselRepeat s = .next { s with
    chIdx := BitVec.ofNat 3 (s.chIdx.toNat + 1)
    waitCnt := BitVec.ofNat 16 s.cfg.params.chRepeatMs, waitRet := 7#4, st := 3#4, resValid := false }

/-- R169: OCT_DOWN. -/
def Obligations.OctDownResult : Prop :=
  (∀ b e, decode (.st4 9#4 b e) = .ok .octDown) ∧
  ∀ s : State,
    (s.inputs.keyIn.getLsbD s.cfg.params.octDownLine = true → exec .octDown s = .next { s with
      octave := if s.cfg.params.octMin < s.octave.toNat then BitVec.ofNat 4 (s.octave.toNat - 1) else s.octave
      waitCnt := BitVec.ofNat 16 s.cfg.params.octRepeatMs, waitRet := 10#4, st := 3#4, resValid := false }) ∧
    (s.inputs.keyIn.getLsbD s.cfg.params.octDownLine = false →
      exec .octDown s = .next { s with st := 10#4, resValid := false })

/-- R170: OCT_UP. -/
def Obligations.OctUpResult : Prop :=
  (∀ b e, decode (.st4 10#4 b e) = .ok .octUp) ∧
  ∀ s : State,
    (s.inputs.keyIn.getLsbD s.cfg.params.octUpLine = true → exec .octUp s = .next { s with
      octave := if s.octave.toNat < s.cfg.params.octMax then BitVec.ofNat 4 (s.octave.toNat + 1) else s.octave
      waitCnt := BitVec.ofNat 16 s.cfg.params.octRepeatMs, waitRet := 6#4, st := 3#4, resValid := false }) ∧
    (s.inputs.keyIn.getLsbD s.cfg.params.octUpLine = false →
      exec .octUp s = .next { s with st := 6#4, resValid := false })

/-- R171: reset puts the octave in its bounds, whatever the parameters, every step keeps it there, and only the two octave
operations and reset write it. -/
def Obligations.OctaveStaysInBounds : Prop :=
  (∀ (c : Config) (i : Inputs) (l : List Inputs) (k : Nat), (State.resetWith c i l k).octaveInBounds) ∧
  ∀ s t : State, step s = .next t → (s.octaveInBounds → t.octaveInBounds) ∧
    (t.octave ≠ s.octave → s.inputs.rst = true ∨ s.st = 9#4 ∨ s.st = 10#4)

/-- R172: the preset advances by one, mod 4, in the cycle of OVERLAY_EXIT, is 0 after a reset cycle, and changes at no other
time. -/
def Obligations.PresetCyclesOnOverlayExitOnly : Prop :=
  ∀ s t : State, step s = .next t → t.preset.toNat =
    if s.inputs.rst then 0
    else if s.st = 6#4 ∧ s.inputs.btnIn = false then (s.preset.toNat + 1) % 4
    else s.preset.toNat

/-- R173: in a legal state of the overlay or of its settle wait, no operation of the scanner is selected, a cycle without reset
changes neither pool nor samples, and the next state is in the overlay, in the settle wait or back in `S_IDLE`. -/
def Obligations.OverlayExcludesNoteScanning : Prop :=
  ∀ s t : State, s.legal → (s.inOverlay ∨ s.inSettle) → s.inputs.rst = false → step s = .next t →
    (∀ i, decode (.st4 s.st s.inputs.btnIn (s.pend != 0#13)) = .ok i → i ∉ [.pollSample, .scanEdge, .scanEnd]) ∧
    t.pool = s.pool ∧ t.prev = s.prev ∧ t.cur = s.cur ∧ t.pend = s.pend ∧
    (t.inOverlay ∨ t.inSettle ∨ t.st = 0#4)

/-- R164: with a tick in every cycle, an overlay entry shows `preset` flashes of P = FLASH_ON_MS + FLASH_OFF_MS + 4 cycles each:
`led` is 1 in the states 2 + j * P to 3 + FLASH_ON_MS + j * P for each j below `preset`, and in no other state up to
`S_OVL_TOP`, which is reached after 2 + preset * P cycles. -/
def Obligations.FlashPhaseShowsPresetFlashes : Prop :=
  ∀ (s : State) (period : Nat), period = s.cfg.params.flashOnMs + s.cfg.params.flashOffMs + 4 →
    s.st = 0#4 → s.inputs.btnIn = true → s.led = false →
    s.givenFor (2 + s.preset.toNat * period) (fun i => i.rst = false ∧ i.tickMs = true) →
    (∀ k ≤ 2 + s.preset.toNat * period, ∃ t, s.after k = .next t ∧
      (t.led = true ↔ ∃ j < s.preset.toNat, 2 + j * period ≤ k ∧ k < 4 + s.cfg.params.flashOnMs + j * period)) ∧
    ∃ t, s.after (2 + s.preset.toNat * period) = .next t ∧
      t.st = 6#4 ∧ t.ovl = true ∧ t.led = false ∧ t.flashCnt = 0#2 ∧ t.preset = s.preset ∧ t.octave = s.octave ∧
      t.pool = s.pool ∧ t.prev = s.prev

/-! ## Timer -/

/-- R208: WAIT_TICK. -/
def Obligations.WaitTickResult : Prop :=
  (∀ b e, decode (.st4 3#4 b e) = .ok .waitTick) ∧
  ∀ s : State,
    (s.waitCnt = 0#16 → exec .waitTick s = .next { s with st := s.waitRet, resValid := false }) ∧
    (s.waitCnt ≠ 0#16 → s.inputs.tickMs = true →
      exec .waitTick s = .next { s with waitCnt := BitVec.ofNat 16 (s.waitCnt.toNat - 1), resValid := false }) ∧
    (s.waitCnt ≠ 0#16 → s.inputs.tickMs = false → exec .waitTick s = .next { s with resValid := false })

/-- R208, R241: with a tick in every cycle a wait of N ticks lasts exactly N + 1 cycles. -/
def Obligations.WaitLastsOneCycleMoreThanItsTicks : Prop :=
  ∀ s : State, s.st = 3#4 → s.givenFor (s.waitCnt.toNat + 1) (fun i => i.rst = false ∧ i.tickMs = true) →
    (∀ k ≤ s.waitCnt.toNat, ∃ t, s.after k = .next t ∧ t.st = 3#4 ∧ t.waitCnt.toNat = s.waitCnt.toNat - k) ∧
    ∃ t, s.after (s.waitCnt.toNat + 1) = .next t ∧
      t = { s with st := s.waitRet, waitCnt := 0#16, resValid := false
                   inputs := t.inputs, stim := t.stim, freeIdx := t.freeIdx }

/-- R208: a wait with ticks still to come and no tick holds for any number of cycles. -/
def Obligations.WaitWithoutTicksHolds : Prop :=
  ∀ (s : State) (n : Nat), s.st = 3#4 → s.waitCnt ≠ 0#16 → s.givenFor n (fun i => i.rst = false ∧ i.tickMs = false) →
    ∃ t, s.after n = .next t ∧
      t = { s with resValid := t.resValid, inputs := t.inputs, stim := t.stim, freeIdx := t.freeIdx }

/-! ## States the rules state no value for -/

/-- The model's choice (logs 14 to 17): where a rule's value is not stated (`flash_cnt - 1` at 0, `ch_idx + 1` at 7, the line of
`CHSEL_LINE[5..7]`, `tx_idx + 1` at 3) the operation still runs, that value is some value, and everything else is as the rule
says: the whole next state is given, and the free-value index advances. -/
def Obligations.UnstatedValuesStayFreeAndRunOn : Prop :=
  ∀ s : State,
    (s.flashCnt = 0#2 → ∃ v, exec .flashOff s = .next { s with
      led := false, flashCnt := v, freeIdx := s.freeIdx + 1
      waitCnt := BitVec.ofNat 16 s.cfg.params.flashOffMs, waitRet := 4#4, st := 3#4, resValid := false }) ∧
    (s.chIdx = 7#3 → ∃ v, exec .chselRepeat s = .next { s with
      chIdx := v, freeIdx := s.freeIdx + 1
      waitCnt := BitVec.ofNat 16 s.cfg.params.chRepeatMs, waitRet := 7#4, st := 3#4, resValid := false }) ∧
    (5 ≤ s.chIdx.toNat → ∃ (held : Bool) (v : BitVec 3), exec .chselTest s = .next (
      if held then { s with
        msgLen := if s.cfg.params.ccLen = 2 then 2#2 else 3#2
        msgB0 := 0xB0#8 ||| s.chIdx.setWidth 8
        msgB1 := if s.cfg.params.ccLen = 2 then s.preset.setWidth 8 else BitVec.ofNat 8 s.cfg.params.ccCtrl
        msgB2 := if s.cfg.params.ccLen = 2 then 0#8 else s.preset.setWidth 8
        txIdx := 0#2, txRet := 8#4, st := 2#4, resValid := false, freeIdx := s.freeIdx + 1 }
      else { s with
        chIdx := if s.chIdx = 7#3 then v else BitVec.ofNat 3 (s.chIdx.toNat + 1)
        resValid := false, freeIdx := s.freeIdx + 1 })) ∧
    (s.txIdx = 3#2 → s.inputs.txReady = true →
      ∃ v, exec .txByte s = .next { s with txIdx := v, freeIdx := s.freeIdx + 1, resValid := false })

/-! ## Whole-machine rules -/

/-- R26 to R36, R41: which cycles may write each register but `st`, and that none writes the parameters. -/
def Obligations.RegistersAreWrittenByTheirRulesOnly : Prop :=
  ∀ s t : State, step s = .next t → t.cfg = s.cfg ∧ (s.inputs.rst = false →
    (t.prev ≠ s.prev → s.st = 1#4 ∧ s.pend = 0#13) ∧
    (t.cur ≠ s.cur → s.st = 0#4 ∧ s.inputs.btnIn = false) ∧
    (t.pend ≠ s.pend → (s.st = 0#4 ∧ s.inputs.btnIn = false) ∨ (s.st = 1#4 ∧ s.pend ≠ 0#13)) ∧
    (t.octave ≠ s.octave → s.st = 9#4 ∨ s.st = 10#4) ∧
    (t.preset ≠ s.preset → s.st = 6#4 ∧ s.inputs.btnIn = false) ∧
    (t.pool ≠ s.pool → s.st = 1#4 ∧ s.pend ≠ 0#13) ∧
    ((t.msgLen, t.msgB0, t.msgB1, t.msgB2) ≠ (s.msgLen, s.msgB0, s.msgB1, s.msgB2) →
      (s.st = 1#4 ∧ s.pend ≠ 0#13) ∨ s.st = 7#4) ∧
    (t.txIdx ≠ s.txIdx → (s.st = 2#4 ∧ s.inputs.txReady = true) ∨ (s.st = 1#4 ∧ s.pend ≠ 0#13) ∨ s.st = 7#4) ∧
    (t.txRet ≠ s.txRet → (s.st = 1#4 ∧ s.pend ≠ 0#13) ∨ s.st = 7#4) ∧
    (t.waitCnt ≠ s.waitCnt → (s.st = 3#4 ∧ s.waitCnt ≠ 0#16 ∧ s.inputs.tickMs = true) ∨ s.loadsWait) ∧
    (t.waitRet ≠ s.waitRet → s.loadsWait) ∧
    (t.flashCnt ≠ s.flashCnt → (s.st = 0#4 ∧ s.inputs.btnIn = true) ∨ s.st = 5#4) ∧
    (t.chIdx ≠ s.chIdx → (s.st = 6#4 ∧ s.inputs.btnIn = true) ∨ s.st = 7#4 ∨ s.st = 8#4) ∧
    (t.led ≠ s.led → s.st = 4#4 ∨ s.st = 5#4) ∧
    (t.ovl ≠ s.ovl → (s.st = 0#4 ∧ s.inputs.btnIn = true) ∨ (s.st = 6#4 ∧ s.inputs.btnIn = false)) ∧
    (t.resValid = true ↔ s.st = 1#4 ∧ s.pend ≠ 0#13) ∧
    ((t.resKind, t.resLine, t.resSlot) ≠ (s.resKind, s.resLine, s.resSlot) → s.st = 1#4 ∧ s.pend ≠ 0#13))

/-- R127: from a legal state no step reports REUSE. -/
def Obligations.ReuseIsNeverReported : Prop :=
  ∀ s t : State, s.legal → step s = .next t → ¬ (t.resValid = true ∧ t.resKind = 1#3)

/-- The laws R25, R31, R32, R35, R82, R107, R123, R127, R164, R171, R173, R200, R207, as one invariant: every step keeps it. -/
def Obligations.StepKeepsLegalStates : Prop :=
  ∀ s t : State, s.legal → step s = .next t → t.legal

/-- The invariant holds after reset, for the machine's own reset state and for any parameters and inputs. -/
def Obligations.ResetStatesAreLegal : Prop :=
  State.reset.legal ∧
    ∀ (c : Config) (i : Inputs) (l : List Inputs) (k : Nat), (State.resetWith c i l k).legal

/-- R243: under the fairness duty on `tx_ready`, a run without reset that is in `S_TX` leaves it for its `tx_ret`. -/
def Obligations.FairRunsEndTheirMessages : Prop :=
  ∀ r : Nat → State, IsRun r → NoReset r → FairReady r → (r 0).st = 2#4 →
    (r 0).txIdx.toNat < (r 0).msgLen.toNat → ∃ n, (r n).st = (r 0).txRet ∧ (r n).txIdx = 0#2

/-- R243: under the fairness duty on `tick_ms`, a run without reset that is in `S_WAIT` leaves it for its `wait_ret`. -/
def Obligations.FairRunsEndTheirWaits : Prop :=
  ∀ r : Nat → State, IsRun r → NoReset r → FairTick r → (r 0).st = 3#4 →
    ∃ n, (r n).st = (r 0).waitRet ∧ (r n).waitCnt = 0#16

/-- R244: nothing is in flight at launch, and no run from the reset state meets a fault. -/
def Obligations.LaunchedRunsNeverFault : Prop :=
  ∀ r : Nat → State, IsRun r → LaunchReset r →
    ((r 0).outputs.txValid = false ∧ (r 0).pend = 0#13 ∧ (r 0).waitCnt = 0#16 ∧ (r 0).resValid = false ∧
      ∀ i < 4, ((r 0).pool.get i).v = false) ∧ NoFault r

/-- R242, R244, R25: a run begins in the reset state, whatever the state before its `RESET`, and no run of any script meets a
fault, so none ends in one. That a `RUN_TO` is given a bound is the model's choice (log 19). -/
def Obligations.ScriptRunsBeginAtResetAndNeverFault : Prop :=
  ∀ (bound : Nat) (script : List Cmd) (s : State),
    (State.resetWith s.cfg s.inputs s.stim s.freeIdx).sameRegisters (Bench.launch s).machine ∧
    (Bench.launch s).machine.cfg = s.cfg ∧
    (runScript bound script s).noFault = true ∧ (runScript bound script s).ending ≠ .fault

/-- R242: which end a run has: clean by its four conditions and no others, cut off in `S_TX`, `S_WAIT` or an overlay state, and a
hang is a run that breaks a fairness duty of R243. That the four suffice and 4..10 are the overlay states is log 25's reading. -/
def Obligations.RunEndsAreCleanCutOffOrFault : Prop :=
  (∀ b : Bench,
    (b.ending = .clean ↔ b.machine.st = 0#4 ∧ b.machine.pend = 0#13 ∧ b.machine.outputs.txValid = false ∧ b.reached = true) ∧
    (b.ending = .cutOff ↔ b.machine.st = 2#4 ∨ b.machine.st = 3#4 ∨ (4 ≤ b.machine.st.toNat ∧ b.machine.st.toNat ≤ 10)) ∧
    (b.ending = .fault ↔ 11 ≤ b.machine.st.toNat)) ∧
  (∀ r : Nat → State, Hangs r → ¬ Fair r)

/-! ## Encodings -/

/-- R80, R83 to R86, R92: decoding the selector of a well-formed operation gives it back. -/
def Obligations.DecodeOfEncodeIsTheOperation : Prop :=
  ∀ i : Instr, i.wf = true → decode (encode i) = .ok i

/-- R89, R91: whatever a selector decodes to is a well-formed operation. -/
def Obligations.DecodedOperationsAreWellFormed : Prop :=
  ∀ (sel : Selector) (i : Instr), decode sel = .ok i → i.wf = true

/-- R87: a receiver reads a message back from its bytes, with whatever follows it, when `CC_LEN` is the length its
Control-Changes have. -/
def Obligations.ReceiverReadsMessagesBack : Prop :=
  ∀ (m : Message) (rest : List Byte) (ccLen : Nat),
    (match m with
      | .noteOn _ _ _ => True
      | .noteOff _ _ _ => True
      | .cc2 _ _ => ccLen = 2
      | .cc3 _ _ _ => ccLen = 3) →
    decodeMessage ccLen (encodeMessage m ++ rest) = .ok (m, rest)

/-- R80, R84 to R86, R92: a few words written out from the encodings. -/
def Obligations.WrittenOutWordsDecode : Prop :=
  decode (.st4 0b0001#4 false true) = .ok .scanEdge ∧ decode (.st4 0b0110#4 true false) = .ok .overlayLoop ∧
    decode (.evt5 0b11001#5) = .ok (.assignPress 9#4) ∧ decode (.evt5 0b01001#5) = .ok (.assignRelease 9#4) ∧
    decode (.note 0b10010011#8 5#4) = .ok (.encNoteOn 5#4 3#2) ∧ decode (.note 0b10000001#8 12#4) = .ok (.encNoteOff 12#4 1#2) ∧
    decode (.control 0b10110010#8) = .ok (.encCc 2#2)
end

