-- ==== Sys2Proof/Laws/Config.lean ====
section
/-! SUPPORT. What the checks of spec/00_scope.md R8 say of every configuration, one lemma per fact the proofs use. -/

namespace Sys2Proof

variable (c : Config)

/-- All the checks of R8 at once. -/
theorem Config.checks :
    c.params.keyMaskOk = true ∧ c.params.noteOffsetsOk = true ∧ c.params.velocitiesOk = true ∧
      c.params.overlayLinesInRange = true ∧ c.params.overlayLinesDistinct = true ∧ c.params.octavesOk = true ∧
      c.params.notesOk = true ∧ c.params.ccLenOk = true ∧ c.params.ccCtrlOk = true ∧ c.params.delaysOk = true := by
  have h := c.wf
  simp only [Params.wf, Bool.and_eq_true] at h
  obtain ⟨⟨⟨⟨⟨⟨⟨⟨⟨h1, h2⟩, h3⟩, h4⟩, h5⟩, h6⟩, h7⟩, h8⟩, h9⟩, h10⟩ := h
  exact ⟨h1, h2, h3, h4, h5, h6, h7, h8, h9, h10⟩

theorem Config.keyMask_lt : c.params.keyMask < 2 ^ 13 := by
  simpa [Params.keyMaskOk] using c.checks.1

theorem Config.octaves_ordered :
    c.params.octMin ≤ c.params.octReset ∧ c.params.octReset ≤ c.params.octMax ∧ c.params.octMax ≤ 15 := by
  simpa [Params.octavesOk] using c.checks.2.2.2.2.2.1

theorem Config.ccLen_eq : c.params.ccLen = 2 ∨ c.params.ccLen = 3 := by
  simpa [Params.ccLenOk] using c.checks.2.2.2.2.2.2.2.1

theorem Config.ccCtrl_le : c.params.ccCtrl ≤ 127 := by
  simpa [Params.ccCtrlOk] using c.checks.2.2.2.2.2.2.2.2.1

theorem Config.delay_le {d : Nat} (h : d ∈ c.params.delays) : d ≤ 65535 := by
  have := c.checks.2.2.2.2.2.2.2.2.2
  simp only [Params.delaysOk, List.all_eq_true, decide_eq_true_eq] at this
  exact this d h

theorem Config.overlayLine_le {l : Nat} (h : l ∈ c.params.overlayLines) : l ≤ 12 := by
  have := c.checks.2.2.2.1
  simp only [Params.overlayLinesInRange, List.all_eq_true, decide_eq_true_eq] at this
  exact this l h

theorem Config.note_le {n : Nat} (h : n ∈ c.params.noteOffset.toList) : c.params.octMax * 12 + n ≤ 127 := by
  have := c.checks.2.2.2.2.2.2.1
  simp only [Params.notesOk, List.all_eq_true, decide_eq_true_eq] at this
  exact this n h

theorem Config.noteOffset_le {n : Nat} (h : n ∈ c.params.noteOffset.toList) : n ≤ 12 := by
  have := c.checks.2.1
  simp only [Params.noteOffsetsOk, List.all_eq_true, decide_eq_true_eq] at this
  exact this n h

theorem Config.vel_le {v : Nat} (h : v ∈ c.params.vel.toList) : v ≤ 127 := by
  have := c.checks.2.2.1
  simp only [Params.velocitiesOk, List.all_eq_true, decide_eq_true_eq] at this
  exact this v h

namespace Machine

/-- A table read at one of the 13 lines is a table entry (R61). -/
theorem noteOffsetAt_mem {line : Line} (h : line.toNat ≤ 12) : noteOffsetAt c line ∈ c.params.noteOffset.toList := by
  have hl : line.toNat < c.params.noteOffset.toList.length := by simp; omega
  simp only [noteOffsetAt, List.getD_eq_getElem?_getD, List.getElem?_eq_getElem hl, Option.getD_some]
  exact List.getElem_mem hl

theorem velocity_mem {line : Line} (h : line.toNat ≤ 12) :
    c.params.vel.toList.getD line.toNat 0 ∈ c.params.vel.toList := by
  have hl : line.toNat < c.params.vel.toList.length := by simp; omega
  simp only [List.getD_eq_getElem?_getD, List.getElem?_eq_getElem hl, Option.getD_some]
  exact List.getElem_mem hl

/-- R142: with the octave at most `OCT_MAX`, the note byte is the exact sum, and a legal data byte. -/
theorem noteByte_toNat {line : Line} {octave : BitVec 4} (h : line.toNat ≤ 12) (ho : octave.toNat ≤ c.params.octMax) :
    (noteByte c line octave).toNat = noteOffsetAt c line + octave.toNat * 12 ∧
      (noteByte c line octave).toNat ≤ 127 := by
  have hn := c.note_le (noteOffsetAt_mem c h)
  have : noteOffsetAt c line + octave.toNat * 12 ≤ 127 := by omega
  simp only [noteByte, BitVec.toNat_ofNat]
  omega

/-- R143: the velocity byte is the table entry, and a legal data byte. -/
theorem velocityByte_toNat {line : Line} (h : line.toNat ≤ 12) :
    (velocityByte c line).toNat = c.params.vel.toList.getD line.toNat 0 ∧ (velocityByte c line).toNat ≤ 127 := by
  have := c.vel_le (velocity_mem c h)
  simp only [velocityByte, BitVec.toNat_ofNat]
  omega

/-- A delay parameter is loaded whole (R8, R34). -/
theorem delay_toNat {d : Nat} (h : d ∈ c.params.delays) : (delay d).toNat = d := by
  have := c.delay_le h
  simp only [delay, BitVec.toNat_ofNat]
  omega

end Machine
end Sys2Proof
end

