-- ==== Sys2Proof/Laws/State.lean ====
section
/-! SUPPORT. Every field of State after every shared update: true by rfl, for simp. -/

namespace Sys2Proof.Machine

variable (s : State)

@[simp] theorem State.quiet_st : s.quiet.st = s.st := rfl
@[simp] theorem State.quiet_prev : s.quiet.prev = s.prev := rfl
@[simp] theorem State.quiet_cur : s.quiet.cur = s.cur := rfl
@[simp] theorem State.quiet_pend : s.quiet.pend = s.pend := rfl
@[simp] theorem State.quiet_octave : s.quiet.octave = s.octave := rfl
@[simp] theorem State.quiet_preset : s.quiet.preset = s.preset := rfl
@[simp] theorem State.quiet_pool : s.quiet.pool = s.pool := rfl
@[simp] theorem State.quiet_msgLen : s.quiet.msgLen = s.msgLen := rfl
@[simp] theorem State.quiet_msgB0 : s.quiet.msgB0 = s.msgB0 := rfl
@[simp] theorem State.quiet_msgB1 : s.quiet.msgB1 = s.msgB1 := rfl
@[simp] theorem State.quiet_msgB2 : s.quiet.msgB2 = s.msgB2 := rfl
@[simp] theorem State.quiet_txIdx : s.quiet.txIdx = s.txIdx := rfl
@[simp] theorem State.quiet_txRet : s.quiet.txRet = s.txRet := rfl
@[simp] theorem State.quiet_waitCnt : s.quiet.waitCnt = s.waitCnt := rfl
@[simp] theorem State.quiet_waitRet : s.quiet.waitRet = s.waitRet := rfl
@[simp] theorem State.quiet_flashCnt : s.quiet.flashCnt = s.flashCnt := rfl
@[simp] theorem State.quiet_chIdx : s.quiet.chIdx = s.chIdx := rfl
@[simp] theorem State.quiet_led : s.quiet.led = s.led := rfl
@[simp] theorem State.quiet_ovl : s.quiet.ovl = s.ovl := rfl
@[simp] theorem State.quiet_resValid : s.quiet.resValid = false := rfl
@[simp] theorem State.quiet_resKind : s.quiet.resKind = s.resKind := rfl
@[simp] theorem State.quiet_resLine : s.quiet.resLine = s.resLine := rfl
@[simp] theorem State.quiet_resSlot : s.quiet.resSlot = s.resSlot := rfl
@[simp] theorem State.quiet_cfg : s.quiet.cfg = s.cfg := rfl
@[simp] theorem State.quiet_inputs : s.quiet.inputs = s.inputs := rfl
@[simp] theorem State.quiet_stim : s.quiet.stim = s.stim := rfl
@[simp] theorem State.quiet_freeIdx : s.quiet.freeIdx = s.freeIdx := rfl

@[simp] theorem State.reportCall_st (line : Line) (a : Assigned) : (s.reportCall line a).st = s.st := rfl
@[simp] theorem State.reportCall_prev (line : Line) (a : Assigned) : (s.reportCall line a).prev = s.prev := rfl
@[simp] theorem State.reportCall_cur (line : Line) (a : Assigned) : (s.reportCall line a).cur = s.cur := rfl
@[simp] theorem State.reportCall_pend (line : Line) (a : Assigned) : (s.reportCall line a).pend = s.pend := rfl
@[simp] theorem State.reportCall_octave (line : Line) (a : Assigned) : (s.reportCall line a).octave = s.octave := rfl
@[simp] theorem State.reportCall_preset (line : Line) (a : Assigned) : (s.reportCall line a).preset = s.preset := rfl
@[simp] theorem State.reportCall_pool (line : Line) (a : Assigned) : (s.reportCall line a).pool = a.pool := rfl
@[simp] theorem State.reportCall_msgLen (line : Line) (a : Assigned) : (s.reportCall line a).msgLen = s.msgLen := rfl
@[simp] theorem State.reportCall_msgB0 (line : Line) (a : Assigned) : (s.reportCall line a).msgB0 = s.msgB0 := rfl
@[simp] theorem State.reportCall_msgB1 (line : Line) (a : Assigned) : (s.reportCall line a).msgB1 = s.msgB1 := rfl
@[simp] theorem State.reportCall_msgB2 (line : Line) (a : Assigned) : (s.reportCall line a).msgB2 = s.msgB2 := rfl
@[simp] theorem State.reportCall_txIdx (line : Line) (a : Assigned) : (s.reportCall line a).txIdx = s.txIdx := rfl
@[simp] theorem State.reportCall_txRet (line : Line) (a : Assigned) : (s.reportCall line a).txRet = s.txRet := rfl
@[simp] theorem State.reportCall_waitCnt (line : Line) (a : Assigned) : (s.reportCall line a).waitCnt = s.waitCnt := rfl
@[simp] theorem State.reportCall_waitRet (line : Line) (a : Assigned) : (s.reportCall line a).waitRet = s.waitRet := rfl
@[simp] theorem State.reportCall_flashCnt (line : Line) (a : Assigned) : (s.reportCall line a).flashCnt = s.flashCnt := rfl
@[simp] theorem State.reportCall_chIdx (line : Line) (a : Assigned) : (s.reportCall line a).chIdx = s.chIdx := rfl
@[simp] theorem State.reportCall_led (line : Line) (a : Assigned) : (s.reportCall line a).led = s.led := rfl
@[simp] theorem State.reportCall_ovl (line : Line) (a : Assigned) : (s.reportCall line a).ovl = s.ovl := rfl
@[simp] theorem State.reportCall_resValid (line : Line) (a : Assigned) : (s.reportCall line a).resValid = true := rfl
@[simp] theorem State.reportCall_resKind (line : Line) (a : Assigned) : (s.reportCall line a).resKind = a.kind.code := rfl
@[simp] theorem State.reportCall_resLine (line : Line) (a : Assigned) : (s.reportCall line a).resLine = line := rfl
@[simp] theorem State.reportCall_resSlot (line : Line) (a : Assigned) : (s.reportCall line a).resSlot = BitVec.ofNat 2 (a.slot.getD 0) := rfl
@[simp] theorem State.reportCall_cfg (line : Line) (a : Assigned) : (s.reportCall line a).cfg = s.cfg := rfl
@[simp] theorem State.reportCall_inputs (line : Line) (a : Assigned) : (s.reportCall line a).inputs = s.inputs := rfl
@[simp] theorem State.reportCall_stim (line : Line) (a : Assigned) : (s.reportCall line a).stim = s.stim := rfl
@[simp] theorem State.reportCall_freeIdx (line : Line) (a : Assigned) : (s.reportCall line a).freeIdx = s.freeIdx := rfl

@[simp] theorem State.goto_st (code : SeqCode) : (s.goto code).st = code := rfl
@[simp] theorem State.goto_prev (code : SeqCode) : (s.goto code).prev = s.prev := rfl
@[simp] theorem State.goto_cur (code : SeqCode) : (s.goto code).cur = s.cur := rfl
@[simp] theorem State.goto_pend (code : SeqCode) : (s.goto code).pend = s.pend := rfl
@[simp] theorem State.goto_octave (code : SeqCode) : (s.goto code).octave = s.octave := rfl
@[simp] theorem State.goto_preset (code : SeqCode) : (s.goto code).preset = s.preset := rfl
@[simp] theorem State.goto_pool (code : SeqCode) : (s.goto code).pool = s.pool := rfl
@[simp] theorem State.goto_msgLen (code : SeqCode) : (s.goto code).msgLen = s.msgLen := rfl
@[simp] theorem State.goto_msgB0 (code : SeqCode) : (s.goto code).msgB0 = s.msgB0 := rfl
@[simp] theorem State.goto_msgB1 (code : SeqCode) : (s.goto code).msgB1 = s.msgB1 := rfl
@[simp] theorem State.goto_msgB2 (code : SeqCode) : (s.goto code).msgB2 = s.msgB2 := rfl
@[simp] theorem State.goto_txIdx (code : SeqCode) : (s.goto code).txIdx = s.txIdx := rfl
@[simp] theorem State.goto_txRet (code : SeqCode) : (s.goto code).txRet = s.txRet := rfl
@[simp] theorem State.goto_waitCnt (code : SeqCode) : (s.goto code).waitCnt = s.waitCnt := rfl
@[simp] theorem State.goto_waitRet (code : SeqCode) : (s.goto code).waitRet = s.waitRet := rfl
@[simp] theorem State.goto_flashCnt (code : SeqCode) : (s.goto code).flashCnt = s.flashCnt := rfl
@[simp] theorem State.goto_chIdx (code : SeqCode) : (s.goto code).chIdx = s.chIdx := rfl
@[simp] theorem State.goto_led (code : SeqCode) : (s.goto code).led = s.led := rfl
@[simp] theorem State.goto_ovl (code : SeqCode) : (s.goto code).ovl = s.ovl := rfl
@[simp] theorem State.goto_resValid (code : SeqCode) : (s.goto code).resValid = s.resValid := rfl
@[simp] theorem State.goto_resKind (code : SeqCode) : (s.goto code).resKind = s.resKind := rfl
@[simp] theorem State.goto_resLine (code : SeqCode) : (s.goto code).resLine = s.resLine := rfl
@[simp] theorem State.goto_resSlot (code : SeqCode) : (s.goto code).resSlot = s.resSlot := rfl
@[simp] theorem State.goto_cfg (code : SeqCode) : (s.goto code).cfg = s.cfg := rfl
@[simp] theorem State.goto_inputs (code : SeqCode) : (s.goto code).inputs = s.inputs := rfl
@[simp] theorem State.goto_stim (code : SeqCode) : (s.goto code).stim = s.stim := rfl
@[simp] theorem State.goto_freeIdx (code : SeqCode) : (s.goto code).freeIdx = s.freeIdx := rfl

@[simp] theorem State.startTx_st (ret : SeqCode) : (s.startTx ret).st = sTx := rfl
@[simp] theorem State.startTx_prev (ret : SeqCode) : (s.startTx ret).prev = s.prev := rfl
@[simp] theorem State.startTx_cur (ret : SeqCode) : (s.startTx ret).cur = s.cur := rfl
@[simp] theorem State.startTx_pend (ret : SeqCode) : (s.startTx ret).pend = s.pend := rfl
@[simp] theorem State.startTx_octave (ret : SeqCode) : (s.startTx ret).octave = s.octave := rfl
@[simp] theorem State.startTx_preset (ret : SeqCode) : (s.startTx ret).preset = s.preset := rfl
@[simp] theorem State.startTx_pool (ret : SeqCode) : (s.startTx ret).pool = s.pool := rfl
@[simp] theorem State.startTx_msgLen (ret : SeqCode) : (s.startTx ret).msgLen = s.msgLen := rfl
@[simp] theorem State.startTx_msgB0 (ret : SeqCode) : (s.startTx ret).msgB0 = s.msgB0 := rfl
@[simp] theorem State.startTx_msgB1 (ret : SeqCode) : (s.startTx ret).msgB1 = s.msgB1 := rfl
@[simp] theorem State.startTx_msgB2 (ret : SeqCode) : (s.startTx ret).msgB2 = s.msgB2 := rfl
@[simp] theorem State.startTx_txIdx (ret : SeqCode) : (s.startTx ret).txIdx = 0#2 := rfl
@[simp] theorem State.startTx_txRet (ret : SeqCode) : (s.startTx ret).txRet = ret := rfl
@[simp] theorem State.startTx_waitCnt (ret : SeqCode) : (s.startTx ret).waitCnt = s.waitCnt := rfl
@[simp] theorem State.startTx_waitRet (ret : SeqCode) : (s.startTx ret).waitRet = s.waitRet := rfl
@[simp] theorem State.startTx_flashCnt (ret : SeqCode) : (s.startTx ret).flashCnt = s.flashCnt := rfl
@[simp] theorem State.startTx_chIdx (ret : SeqCode) : (s.startTx ret).chIdx = s.chIdx := rfl
@[simp] theorem State.startTx_led (ret : SeqCode) : (s.startTx ret).led = s.led := rfl
@[simp] theorem State.startTx_ovl (ret : SeqCode) : (s.startTx ret).ovl = s.ovl := rfl
@[simp] theorem State.startTx_resValid (ret : SeqCode) : (s.startTx ret).resValid = s.resValid := rfl
@[simp] theorem State.startTx_resKind (ret : SeqCode) : (s.startTx ret).resKind = s.resKind := rfl
@[simp] theorem State.startTx_resLine (ret : SeqCode) : (s.startTx ret).resLine = s.resLine := rfl
@[simp] theorem State.startTx_resSlot (ret : SeqCode) : (s.startTx ret).resSlot = s.resSlot := rfl
@[simp] theorem State.startTx_cfg (ret : SeqCode) : (s.startTx ret).cfg = s.cfg := rfl
@[simp] theorem State.startTx_inputs (ret : SeqCode) : (s.startTx ret).inputs = s.inputs := rfl
@[simp] theorem State.startTx_stim (ret : SeqCode) : (s.startTx ret).stim = s.stim := rfl
@[simp] theorem State.startTx_freeIdx (ret : SeqCode) : (s.startTx ret).freeIdx = s.freeIdx := rfl

@[simp] theorem State.startWait_st (ms : Nat) (ret : SeqCode) : (s.startWait ms ret).st = sWait := rfl
@[simp] theorem State.startWait_prev (ms : Nat) (ret : SeqCode) : (s.startWait ms ret).prev = s.prev := rfl
@[simp] theorem State.startWait_cur (ms : Nat) (ret : SeqCode) : (s.startWait ms ret).cur = s.cur := rfl
@[simp] theorem State.startWait_pend (ms : Nat) (ret : SeqCode) : (s.startWait ms ret).pend = s.pend := rfl
@[simp] theorem State.startWait_octave (ms : Nat) (ret : SeqCode) : (s.startWait ms ret).octave = s.octave := rfl
@[simp] theorem State.startWait_preset (ms : Nat) (ret : SeqCode) : (s.startWait ms ret).preset = s.preset := rfl
@[simp] theorem State.startWait_pool (ms : Nat) (ret : SeqCode) : (s.startWait ms ret).pool = s.pool := rfl
@[simp] theorem State.startWait_msgLen (ms : Nat) (ret : SeqCode) : (s.startWait ms ret).msgLen = s.msgLen := rfl
@[simp] theorem State.startWait_msgB0 (ms : Nat) (ret : SeqCode) : (s.startWait ms ret).msgB0 = s.msgB0 := rfl
@[simp] theorem State.startWait_msgB1 (ms : Nat) (ret : SeqCode) : (s.startWait ms ret).msgB1 = s.msgB1 := rfl
@[simp] theorem State.startWait_msgB2 (ms : Nat) (ret : SeqCode) : (s.startWait ms ret).msgB2 = s.msgB2 := rfl
@[simp] theorem State.startWait_txIdx (ms : Nat) (ret : SeqCode) : (s.startWait ms ret).txIdx = s.txIdx := rfl
@[simp] theorem State.startWait_txRet (ms : Nat) (ret : SeqCode) : (s.startWait ms ret).txRet = s.txRet := rfl
@[simp] theorem State.startWait_waitCnt (ms : Nat) (ret : SeqCode) : (s.startWait ms ret).waitCnt = delay ms := rfl
@[simp] theorem State.startWait_waitRet (ms : Nat) (ret : SeqCode) : (s.startWait ms ret).waitRet = ret := rfl
@[simp] theorem State.startWait_flashCnt (ms : Nat) (ret : SeqCode) : (s.startWait ms ret).flashCnt = s.flashCnt := rfl
@[simp] theorem State.startWait_chIdx (ms : Nat) (ret : SeqCode) : (s.startWait ms ret).chIdx = s.chIdx := rfl
@[simp] theorem State.startWait_led (ms : Nat) (ret : SeqCode) : (s.startWait ms ret).led = s.led := rfl
@[simp] theorem State.startWait_ovl (ms : Nat) (ret : SeqCode) : (s.startWait ms ret).ovl = s.ovl := rfl
@[simp] theorem State.startWait_resValid (ms : Nat) (ret : SeqCode) : (s.startWait ms ret).resValid = s.resValid := rfl
@[simp] theorem State.startWait_resKind (ms : Nat) (ret : SeqCode) : (s.startWait ms ret).resKind = s.resKind := rfl
@[simp] theorem State.startWait_resLine (ms : Nat) (ret : SeqCode) : (s.startWait ms ret).resLine = s.resLine := rfl
@[simp] theorem State.startWait_resSlot (ms : Nat) (ret : SeqCode) : (s.startWait ms ret).resSlot = s.resSlot := rfl
@[simp] theorem State.startWait_cfg (ms : Nat) (ret : SeqCode) : (s.startWait ms ret).cfg = s.cfg := rfl
@[simp] theorem State.startWait_inputs (ms : Nat) (ret : SeqCode) : (s.startWait ms ret).inputs = s.inputs := rfl
@[simp] theorem State.startWait_stim (ms : Nat) (ret : SeqCode) : (s.startWait ms ret).stim = s.stim := rfl
@[simp] theorem State.startWait_freeIdx (ms : Nat) (ret : SeqCode) : (s.startWait ms ret).freeIdx = s.freeIdx := rfl

@[simp] theorem State.loadMessage_st (len : BitVec 2) (b0 b1 b2 : Byte) : (s.loadMessage len b0 b1 b2).st = s.st := rfl
@[simp] theorem State.loadMessage_prev (len : BitVec 2) (b0 b1 b2 : Byte) : (s.loadMessage len b0 b1 b2).prev = s.prev := rfl
@[simp] theorem State.loadMessage_cur (len : BitVec 2) (b0 b1 b2 : Byte) : (s.loadMessage len b0 b1 b2).cur = s.cur := rfl
@[simp] theorem State.loadMessage_pend (len : BitVec 2) (b0 b1 b2 : Byte) : (s.loadMessage len b0 b1 b2).pend = s.pend := rfl
@[simp] theorem State.loadMessage_octave (len : BitVec 2) (b0 b1 b2 : Byte) : (s.loadMessage len b0 b1 b2).octave = s.octave := rfl
@[simp] theorem State.loadMessage_preset (len : BitVec 2) (b0 b1 b2 : Byte) : (s.loadMessage len b0 b1 b2).preset = s.preset := rfl
@[simp] theorem State.loadMessage_pool (len : BitVec 2) (b0 b1 b2 : Byte) : (s.loadMessage len b0 b1 b2).pool = s.pool := rfl
@[simp] theorem State.loadMessage_msgLen (len : BitVec 2) (b0 b1 b2 : Byte) : (s.loadMessage len b0 b1 b2).msgLen = len := rfl
@[simp] theorem State.loadMessage_msgB0 (len : BitVec 2) (b0 b1 b2 : Byte) : (s.loadMessage len b0 b1 b2).msgB0 = b0 := rfl
@[simp] theorem State.loadMessage_msgB1 (len : BitVec 2) (b0 b1 b2 : Byte) : (s.loadMessage len b0 b1 b2).msgB1 = b1 := rfl
@[simp] theorem State.loadMessage_msgB2 (len : BitVec 2) (b0 b1 b2 : Byte) : (s.loadMessage len b0 b1 b2).msgB2 = b2 := rfl
@[simp] theorem State.loadMessage_txIdx (len : BitVec 2) (b0 b1 b2 : Byte) : (s.loadMessage len b0 b1 b2).txIdx = s.txIdx := rfl
@[simp] theorem State.loadMessage_txRet (len : BitVec 2) (b0 b1 b2 : Byte) : (s.loadMessage len b0 b1 b2).txRet = s.txRet := rfl
@[simp] theorem State.loadMessage_waitCnt (len : BitVec 2) (b0 b1 b2 : Byte) : (s.loadMessage len b0 b1 b2).waitCnt = s.waitCnt := rfl
@[simp] theorem State.loadMessage_waitRet (len : BitVec 2) (b0 b1 b2 : Byte) : (s.loadMessage len b0 b1 b2).waitRet = s.waitRet := rfl
@[simp] theorem State.loadMessage_flashCnt (len : BitVec 2) (b0 b1 b2 : Byte) : (s.loadMessage len b0 b1 b2).flashCnt = s.flashCnt := rfl
@[simp] theorem State.loadMessage_chIdx (len : BitVec 2) (b0 b1 b2 : Byte) : (s.loadMessage len b0 b1 b2).chIdx = s.chIdx := rfl
@[simp] theorem State.loadMessage_led (len : BitVec 2) (b0 b1 b2 : Byte) : (s.loadMessage len b0 b1 b2).led = s.led := rfl
@[simp] theorem State.loadMessage_ovl (len : BitVec 2) (b0 b1 b2 : Byte) : (s.loadMessage len b0 b1 b2).ovl = s.ovl := rfl
@[simp] theorem State.loadMessage_resValid (len : BitVec 2) (b0 b1 b2 : Byte) : (s.loadMessage len b0 b1 b2).resValid = s.resValid := rfl
@[simp] theorem State.loadMessage_resKind (len : BitVec 2) (b0 b1 b2 : Byte) : (s.loadMessage len b0 b1 b2).resKind = s.resKind := rfl
@[simp] theorem State.loadMessage_resLine (len : BitVec 2) (b0 b1 b2 : Byte) : (s.loadMessage len b0 b1 b2).resLine = s.resLine := rfl
@[simp] theorem State.loadMessage_resSlot (len : BitVec 2) (b0 b1 b2 : Byte) : (s.loadMessage len b0 b1 b2).resSlot = s.resSlot := rfl
@[simp] theorem State.loadMessage_cfg (len : BitVec 2) (b0 b1 b2 : Byte) : (s.loadMessage len b0 b1 b2).cfg = s.cfg := rfl
@[simp] theorem State.loadMessage_inputs (len : BitVec 2) (b0 b1 b2 : Byte) : (s.loadMessage len b0 b1 b2).inputs = s.inputs := rfl
@[simp] theorem State.loadMessage_stim (len : BitVec 2) (b0 b1 b2 : Byte) : (s.loadMessage len b0 b1 b2).stim = s.stim := rfl
@[simp] theorem State.loadMessage_freeIdx (len : BitVec 2) (b0 b1 b2 : Byte) : (s.loadMessage len b0 b1 b2).freeIdx = s.freeIdx := rfl

@[simp] theorem State.drive_st (i : Inputs) : (s.drive i).st = s.st := rfl
@[simp] theorem State.drive_prev (i : Inputs) : (s.drive i).prev = s.prev := rfl
@[simp] theorem State.drive_cur (i : Inputs) : (s.drive i).cur = s.cur := rfl
@[simp] theorem State.drive_pend (i : Inputs) : (s.drive i).pend = s.pend := rfl
@[simp] theorem State.drive_octave (i : Inputs) : (s.drive i).octave = s.octave := rfl
@[simp] theorem State.drive_preset (i : Inputs) : (s.drive i).preset = s.preset := rfl
@[simp] theorem State.drive_pool (i : Inputs) : (s.drive i).pool = s.pool := rfl
@[simp] theorem State.drive_msgLen (i : Inputs) : (s.drive i).msgLen = s.msgLen := rfl
@[simp] theorem State.drive_msgB0 (i : Inputs) : (s.drive i).msgB0 = s.msgB0 := rfl
@[simp] theorem State.drive_msgB1 (i : Inputs) : (s.drive i).msgB1 = s.msgB1 := rfl
@[simp] theorem State.drive_msgB2 (i : Inputs) : (s.drive i).msgB2 = s.msgB2 := rfl
@[simp] theorem State.drive_txIdx (i : Inputs) : (s.drive i).txIdx = s.txIdx := rfl
@[simp] theorem State.drive_txRet (i : Inputs) : (s.drive i).txRet = s.txRet := rfl
@[simp] theorem State.drive_waitCnt (i : Inputs) : (s.drive i).waitCnt = s.waitCnt := rfl
@[simp] theorem State.drive_waitRet (i : Inputs) : (s.drive i).waitRet = s.waitRet := rfl
@[simp] theorem State.drive_flashCnt (i : Inputs) : (s.drive i).flashCnt = s.flashCnt := rfl
@[simp] theorem State.drive_chIdx (i : Inputs) : (s.drive i).chIdx = s.chIdx := rfl
@[simp] theorem State.drive_led (i : Inputs) : (s.drive i).led = s.led := rfl
@[simp] theorem State.drive_ovl (i : Inputs) : (s.drive i).ovl = s.ovl := rfl
@[simp] theorem State.drive_resValid (i : Inputs) : (s.drive i).resValid = s.resValid := rfl
@[simp] theorem State.drive_resKind (i : Inputs) : (s.drive i).resKind = s.resKind := rfl
@[simp] theorem State.drive_resLine (i : Inputs) : (s.drive i).resLine = s.resLine := rfl
@[simp] theorem State.drive_resSlot (i : Inputs) : (s.drive i).resSlot = s.resSlot := rfl
@[simp] theorem State.drive_cfg (i : Inputs) : (s.drive i).cfg = s.cfg := rfl
@[simp] theorem State.drive_inputs (i : Inputs) : (s.drive i).inputs = i := rfl
@[simp] theorem State.drive_stim (i : Inputs) : (s.drive i).stim = s.stim := rfl
@[simp] theorem State.drive_freeIdx (i : Inputs) : (s.drive i).freeIdx = s.freeIdx := rfl

@[simp] theorem State.resetRegisters_st : s.resetRegisters.st = 0#4 := rfl
@[simp] theorem State.resetRegisters_prev : s.resetRegisters.prev = 0#13 := rfl
@[simp] theorem State.resetRegisters_cur : s.resetRegisters.cur = 0#13 := rfl
@[simp] theorem State.resetRegisters_pend : s.resetRegisters.pend = 0#13 := rfl
@[simp] theorem State.resetRegisters_octave : s.resetRegisters.octave = BitVec.ofNat 4 s.cfg.params.octReset := rfl
@[simp] theorem State.resetRegisters_preset : s.resetRegisters.preset = 0#2 := rfl
@[simp] theorem State.resetRegisters_pool : s.resetRegisters.pool = Pool.empty := rfl
@[simp] theorem State.resetRegisters_msgLen : s.resetRegisters.msgLen = 3#2 := rfl
@[simp] theorem State.resetRegisters_msgB0 : s.resetRegisters.msgB0 = 0#8 := rfl
@[simp] theorem State.resetRegisters_msgB1 : s.resetRegisters.msgB1 = 0#8 := rfl
@[simp] theorem State.resetRegisters_msgB2 : s.resetRegisters.msgB2 = 0#8 := rfl
@[simp] theorem State.resetRegisters_txIdx : s.resetRegisters.txIdx = 0#2 := rfl
@[simp] theorem State.resetRegisters_txRet : s.resetRegisters.txRet = 0#4 := rfl
@[simp] theorem State.resetRegisters_waitCnt : s.resetRegisters.waitCnt = 0#16 := rfl
@[simp] theorem State.resetRegisters_waitRet : s.resetRegisters.waitRet = 0#4 := rfl
@[simp] theorem State.resetRegisters_flashCnt : s.resetRegisters.flashCnt = 0#2 := rfl
@[simp] theorem State.resetRegisters_chIdx : s.resetRegisters.chIdx = 0#3 := rfl
@[simp] theorem State.resetRegisters_led : s.resetRegisters.led = false := rfl
@[simp] theorem State.resetRegisters_ovl : s.resetRegisters.ovl = false := rfl
@[simp] theorem State.resetRegisters_resValid : s.resetRegisters.resValid = false := rfl
@[simp] theorem State.resetRegisters_resKind : s.resetRegisters.resKind = 0#3 := rfl
@[simp] theorem State.resetRegisters_resLine : s.resetRegisters.resLine = 0#4 := rfl
@[simp] theorem State.resetRegisters_resSlot : s.resetRegisters.resSlot = 0#2 := rfl
@[simp] theorem State.resetRegisters_cfg : s.resetRegisters.cfg = s.cfg := rfl
@[simp] theorem State.resetRegisters_inputs : s.resetRegisters.inputs = s.inputs := rfl
@[simp] theorem State.resetRegisters_stim : s.resetRegisters.stim = s.stim := rfl
@[simp] theorem State.resetRegisters_freeIdx : s.resetRegisters.freeIdx = s.freeIdx := rfl

/-! The end of a cycle changes the pins, the given inputs and the free-value index only. -/

@[simp] theorem State.nextCycle_st : s.nextCycle.st = s.st := by
  unfold State.nextCycle; split <;> rfl
@[simp] theorem State.nextCycle_prev : s.nextCycle.prev = s.prev := by
  unfold State.nextCycle; split <;> rfl
@[simp] theorem State.nextCycle_cur : s.nextCycle.cur = s.cur := by
  unfold State.nextCycle; split <;> rfl
@[simp] theorem State.nextCycle_pend : s.nextCycle.pend = s.pend := by
  unfold State.nextCycle; split <;> rfl
@[simp] theorem State.nextCycle_octave : s.nextCycle.octave = s.octave := by
  unfold State.nextCycle; split <;> rfl
@[simp] theorem State.nextCycle_preset : s.nextCycle.preset = s.preset := by
  unfold State.nextCycle; split <;> rfl
@[simp] theorem State.nextCycle_pool : s.nextCycle.pool = s.pool := by
  unfold State.nextCycle; split <;> rfl
@[simp] theorem State.nextCycle_msgLen : s.nextCycle.msgLen = s.msgLen := by
  unfold State.nextCycle; split <;> rfl
@[simp] theorem State.nextCycle_msgB0 : s.nextCycle.msgB0 = s.msgB0 := by
  unfold State.nextCycle; split <;> rfl
@[simp] theorem State.nextCycle_msgB1 : s.nextCycle.msgB1 = s.msgB1 := by
  unfold State.nextCycle; split <;> rfl
@[simp] theorem State.nextCycle_msgB2 : s.nextCycle.msgB2 = s.msgB2 := by
  unfold State.nextCycle; split <;> rfl
@[simp] theorem State.nextCycle_txIdx : s.nextCycle.txIdx = s.txIdx := by
  unfold State.nextCycle; split <;> rfl
@[simp] theorem State.nextCycle_txRet : s.nextCycle.txRet = s.txRet := by
  unfold State.nextCycle; split <;> rfl
@[simp] theorem State.nextCycle_waitCnt : s.nextCycle.waitCnt = s.waitCnt := by
  unfold State.nextCycle; split <;> rfl
@[simp] theorem State.nextCycle_waitRet : s.nextCycle.waitRet = s.waitRet := by
  unfold State.nextCycle; split <;> rfl
@[simp] theorem State.nextCycle_flashCnt : s.nextCycle.flashCnt = s.flashCnt := by
  unfold State.nextCycle; split <;> rfl
@[simp] theorem State.nextCycle_chIdx : s.nextCycle.chIdx = s.chIdx := by
  unfold State.nextCycle; split <;> rfl
@[simp] theorem State.nextCycle_led : s.nextCycle.led = s.led := by
  unfold State.nextCycle; split <;> rfl
@[simp] theorem State.nextCycle_ovl : s.nextCycle.ovl = s.ovl := by
  unfold State.nextCycle; split <;> rfl
@[simp] theorem State.nextCycle_resValid : s.nextCycle.resValid = s.resValid := by
  unfold State.nextCycle; split <;> rfl
@[simp] theorem State.nextCycle_resKind : s.nextCycle.resKind = s.resKind := by
  unfold State.nextCycle; split <;> rfl
@[simp] theorem State.nextCycle_resLine : s.nextCycle.resLine = s.resLine := by
  unfold State.nextCycle; split <;> rfl
@[simp] theorem State.nextCycle_resSlot : s.nextCycle.resSlot = s.resSlot := by
  unfold State.nextCycle; split <;> rfl
@[simp] theorem State.nextCycle_cfg : s.nextCycle.cfg = s.cfg := by
  unfold State.nextCycle; split <;> rfl

/-! Loading a Control-Change changes the message buffer only. -/

@[simp] theorem State.loadCc_st (c : Byte) : (s.loadCc c).st = s.st := by
  unfold State.loadCc; split <;> rfl
@[simp] theorem State.loadCc_prev (c : Byte) : (s.loadCc c).prev = s.prev := by
  unfold State.loadCc; split <;> rfl
@[simp] theorem State.loadCc_cur (c : Byte) : (s.loadCc c).cur = s.cur := by
  unfold State.loadCc; split <;> rfl
@[simp] theorem State.loadCc_pend (c : Byte) : (s.loadCc c).pend = s.pend := by
  unfold State.loadCc; split <;> rfl
@[simp] theorem State.loadCc_octave (c : Byte) : (s.loadCc c).octave = s.octave := by
  unfold State.loadCc; split <;> rfl
@[simp] theorem State.loadCc_preset (c : Byte) : (s.loadCc c).preset = s.preset := by
  unfold State.loadCc; split <;> rfl
@[simp] theorem State.loadCc_pool (c : Byte) : (s.loadCc c).pool = s.pool := by
  unfold State.loadCc; split <;> rfl
@[simp] theorem State.loadCc_txIdx (c : Byte) : (s.loadCc c).txIdx = s.txIdx := by
  unfold State.loadCc; split <;> rfl
@[simp] theorem State.loadCc_txRet (c : Byte) : (s.loadCc c).txRet = s.txRet := by
  unfold State.loadCc; split <;> rfl
@[simp] theorem State.loadCc_waitCnt (c : Byte) : (s.loadCc c).waitCnt = s.waitCnt := by
  unfold State.loadCc; split <;> rfl
@[simp] theorem State.loadCc_waitRet (c : Byte) : (s.loadCc c).waitRet = s.waitRet := by
  unfold State.loadCc; split <;> rfl
@[simp] theorem State.loadCc_flashCnt (c : Byte) : (s.loadCc c).flashCnt = s.flashCnt := by
  unfold State.loadCc; split <;> rfl
@[simp] theorem State.loadCc_chIdx (c : Byte) : (s.loadCc c).chIdx = s.chIdx := by
  unfold State.loadCc; split <;> rfl
@[simp] theorem State.loadCc_led (c : Byte) : (s.loadCc c).led = s.led := by
  unfold State.loadCc; split <;> rfl
@[simp] theorem State.loadCc_ovl (c : Byte) : (s.loadCc c).ovl = s.ovl := by
  unfold State.loadCc; split <;> rfl
@[simp] theorem State.loadCc_resValid (c : Byte) : (s.loadCc c).resValid = s.resValid := by
  unfold State.loadCc; split <;> rfl
@[simp] theorem State.loadCc_resKind (c : Byte) : (s.loadCc c).resKind = s.resKind := by
  unfold State.loadCc; split <;> rfl
@[simp] theorem State.loadCc_resLine (c : Byte) : (s.loadCc c).resLine = s.resLine := by
  unfold State.loadCc; split <;> rfl
@[simp] theorem State.loadCc_resSlot (c : Byte) : (s.loadCc c).resSlot = s.resSlot := by
  unfold State.loadCc; split <;> rfl
@[simp] theorem State.loadCc_cfg (c : Byte) : (s.loadCc c).cfg = s.cfg := by
  unfold State.loadCc; split <;> rfl
@[simp] theorem State.loadCc_inputs (c : Byte) : (s.loadCc c).inputs = s.inputs := by
  unfold State.loadCc; split <;> rfl
@[simp] theorem State.loadCc_stim (c : Byte) : (s.loadCc c).stim = s.stim := by
  unfold State.loadCc; split <;> rfl
@[simp] theorem State.loadCc_freeIdx (c : Byte) : (s.loadCc c).freeIdx = s.freeIdx := by
  unfold State.loadCc; split <;> rfl

end Sys2Proof.Machine
end

