-- ==== Sys2Proof/Laws/Ops.lean ====
section
/-! SUPPORT. One lemma per shared operation, saying once everything it can do. -/

namespace Sys2Proof.Machine

/-- `lowest` (R10) answers `i` exactly when `i` is the least index of the mask. -/
theorem lowestIn_eq_some {n : Nat} {m : Nat → Bool} {i : Nat} :
    lowestIn n m = some i ↔ i < n ∧ m i = true ∧ ∀ j < i, m j = false := by
  simp only [lowestIn, List.find?_range_eq_some, List.mem_range, Bool.not_eq_eq_eq_not, Bool.not_true]
  tauto

/-- `lowest` answers nothing exactly on the zero mask (R10). -/
theorem lowestIn_eq_none {n : Nat} {m : Nat → Bool} : lowestIn n m = none ↔ ∀ j < n, m j = false := by
  simp [lowestIn, List.find?_eq_none]

/-- A pool slot read after a slot is written. -/
theorem Pool.get_set (p : Pool) {i j : Nat} (x : Slot) (hi : i < 4) (hj : j < 4) :
    (p.set i x).get j = if j = i then x else p.get j := by
  interval_cases i <;> interval_cases j <;> rfl

theorem Pool.hit_iff (p : Pool) (key : Line) (i : Nat) :
    p.hit key i = true ↔ (p.get i).v = true ∧ (p.get i).k = key := by
  simp [Pool.hit]

/-- What ASSIGN_PRESS can answer (R121): REUSE of the lowest hit, CLAIM of the lowest free slot, or OVERFLOW. -/
theorem Pool.press_cases (p : Pool) (key : Line) :
    (∃ i < 4, p.hit key i = true ∧ p.press key = ⟨some i, .reuse, p⟩) ∨
    ((∀ j < 4, p.hit key j = false) ∧ ∃ i < 4, (p.get i).v = false ∧ (∀ j < i, (p.get j).v = true) ∧
      p.press key = ⟨some i, .claim, p.set i ⟨true, key⟩⟩) ∨
    ((∀ j < 4, p.hit key j = false) ∧ (∀ j < 4, (p.get j).v = true) ∧ p.press key = ⟨none, .overflow, p⟩) := by
  unfold Pool.press
  split
  · rename_i i h
    rw [lowestIn_eq_some] at h
    exact .inl ⟨i, h.1, h.2.1, rfl⟩
  · rename_i h
    rw [lowestIn_eq_none] at h
    split
    · rename_i i hf
      rw [lowestIn_eq_some] at hf
      refine .inr (.inl ⟨h, i, hf.1, ?_, ?_, rfl⟩)
      · simpa [Pool.isFree] using hf.2.1
      · intro j hj
        simpa [Pool.isFree] using hf.2.2 j hj
    · rename_i hf
      rw [lowestIn_eq_none] at hf
      refine .inr (.inr ⟨h, ?_, rfl⟩)
      intro j hj
      simpa [Pool.isFree] using hf j hj

/-- What ASSIGN_RELEASE can answer (R122): FREE of the lowest hit, or SPURIOUS. -/
theorem Pool.release_cases (p : Pool) (key : Line) :
    (∃ i < 4, p.hit key i = true ∧ (∀ j < i, p.hit key j = false) ∧
      p.release key = ⟨some i, .free, p.set i Slot.freeSlot⟩) ∨
    ((∀ j < 4, p.hit key j = false) ∧ p.release key = ⟨none, .spurious, p⟩) := by
  unfold Pool.release
  split
  · rename_i i h
    rw [lowestIn_eq_some] at h
    exact .inl ⟨i, h.1, h.2.1, h.2.2, rfl⟩
  · rename_i h
    rw [lowestIn_eq_none] at h
    exact .inr ⟨h, rfl⟩

/-- A granted slot is one of the four. -/
theorem Pool.assign_slot_lt (p : Pool) (pressed : Bool) (key : Line) {i : Nat}
    (h : (p.assign pressed key).slot = some i) : i < 4 := by
  unfold Pool.assign at h
  split at h
  · rcases p.press_cases key with ⟨k, hk, -, e⟩ | ⟨-, k, hk, -, -, e⟩ | ⟨-, -, e⟩ <;> simp_all
  · rcases p.release_cases key with ⟨k, hk, -, -, e⟩ | ⟨-, e⟩ <;> simp_all

/-- NONE comes with OVERFLOW or SPURIOUS, and only with them (R121, R122). -/
theorem Pool.assign_slot_none (p : Pool) (pressed : Bool) (key : Line) :
    (p.assign pressed key).slot = none ↔
      (p.assign pressed key).kind = .overflow ∨ (p.assign pressed key).kind = .spurious := by
  unfold Pool.assign
  split
  · rcases p.press_cases key with ⟨k, -, -, e⟩ | ⟨-, k, -, -, -, e⟩ | ⟨-, -, e⟩ <;> simp [e]
  · rcases p.release_cases key with ⟨k, -, -, -, e⟩ | ⟨-, e⟩ <;> simp [e]

/-- The two effects of SCAN_EDGE (R103): no slot, no message; or a slot, and its Note message goes to `S_TX`. -/
theorem State.scanEvent_cases (s : State) (line : Nat) :
    let a := s.pool.assign (s.cur.getLsbD line) (BitVec.ofNat 4 line)
    let t := ({ s with pend := s.pend &&& ~~~(1#13 <<< line) } : State).reportCall (BitVec.ofNat 4 line) a
    (a.slot = none ∧ s.scanEvent line = t) ∨
    (∃ i < 4, a.slot = some i ∧
      s.scanEvent line =
        (if s.cur.getLsbD line then t.loadNoteOn (BitVec.ofNat 4 line) (BitVec.ofNat 2 i)
          else t.loadNoteOff (BitVec.ofNat 4 line) (BitVec.ofNat 2 i)).startTx sScan) := by
  intro a t
  cases h : a.slot with
  | none => exact .inl ⟨rfl, by simp only [State.scanEvent]; rw [h]⟩
  | some i =>
    refine .inr ⟨i, s.pool.assign_slot_lt _ _ h, rfl, ?_⟩
    simp only [State.scanEvent]
    rw [h]

/-- A Control-Change has one of two forms (R86, R145). -/
theorem State.loadCc_cases (s : State) (c : Byte) :
    (s.cfg.params.ccLen = 2 ∧ s.loadCc c = s.loadMessage 2#2 (0xB0#8 ||| c) (s.preset.setWidth 8) 0#8) ∨
    (s.cfg.params.ccLen = 3 ∧
      s.loadCc c = s.loadMessage 3#2 (0xB0#8 ||| c) (BitVec.ofNat 8 s.cfg.params.ccCtrl) (s.preset.setWidth 8)) := by
  rcases s.cfg.ccLen_eq with h | h
  · exact .inl ⟨h, by simp [State.loadCc, h]⟩
  · exact .inr ⟨h, by simp [State.loadCc, h]⟩

/-- The end of a cycle (log 1, 2). -/
theorem State.nextCycle_cases (s : State) :
    (∃ i rest, s.stim = i :: rest ∧ s.nextCycle = { s with inputs := i, stim := rest }) ∨
    (s.stim = [] ∧ s.nextCycle = { s with inputs := Config.freeInputs s.freeIdx, freeIdx := s.freeIdx + 1 }) := by
  unfold State.nextCycle
  split
  · rename_i i rest h
    exact .inl ⟨i, rest, h, rfl⟩
  · rename_i h
    exact .inr ⟨h, rfl⟩

theorem onNext_eq_next {f : State → State} {o : StepOutcome} {t : State} :
    onNext f o = .next t ↔ ∃ u, o = .next u ∧ t = f u := by
  cases o <;> simp [onNext, eq_comm]

end Sys2Proof.Machine
end

