-- ==== Sys2Proof/Laws/PerInstr.lean ====
section
/-! SUPPORT. The per-instruction family: every operation's selector matches its own row of spec/opcode_table.json. -/

namespace Sys2Proof.Laws.MatchesTableRow

/-- The mask and the pattern of the operation's row, copied from spec/opcode_table.json. -/
def row : Instr → Byte × Byte
  | .overlayEnter => (0x0F#8, 0x00#8)
  | .pollSample => (0x0F#8, 0x00#8)
  | .scanEdge => (0x0F#8, 0x01#8)
  | .scanEnd => (0x0F#8, 0x01#8)
  | .txByte => (0x0F#8, 0x02#8)
  | .waitTick => (0x0F#8, 0x03#8)
  | .flashOn => (0x0F#8, 0x04#8)
  | .flashOff => (0x0F#8, 0x05#8)
  | .overlayLoop => (0x0F#8, 0x06#8)
  | .overlayExit => (0x0F#8, 0x06#8)
  | .chselTest => (0x0F#8, 0x07#8)
  | .chselRepeat => (0x0F#8, 0x08#8)
  | .octDown => (0x0F#8, 0x09#8)
  | .octUp => (0x0F#8, 0x0A#8)
  | .assignPress _ => (0x10#8, 0x10#8)
  | .assignRelease _ => (0x10#8, 0x00#8)
  | .encNoteOn _ _ => (0xFC#8, 0x90#8)
  | .encNoteOff _ _ => (0xFC#8, 0x80#8)
  | .encCc _ => (0xFC#8, 0xB0#8)

/-- The word of an operation (`st`, the event word or the status byte) has the bits its row fixes. -/
def Statement (i : Instr) : Prop := (encode i).tableByte &&& (row i).1 = (row i).2

theorem overlayEnter : Statement .overlayEnter := by unfold Statement; decide
theorem pollSample : Statement .pollSample := by unfold Statement; decide
theorem scanEdge : Statement .scanEdge := by unfold Statement; decide
theorem scanEnd : Statement .scanEnd := by unfold Statement; decide
theorem txByte : Statement .txByte := by unfold Statement; decide
theorem waitTick : Statement .waitTick := by unfold Statement; decide
theorem flashOn : Statement .flashOn := by unfold Statement; decide
theorem flashOff : Statement .flashOff := by unfold Statement; decide
theorem overlayLoop : Statement .overlayLoop := by unfold Statement; decide
theorem overlayExit : Statement .overlayExit := by unfold Statement; decide
theorem chselTest : Statement .chselTest := by unfold Statement; decide
theorem chselRepeat : Statement .chselRepeat := by unfold Statement; decide
theorem octDown : Statement .octDown := by unfold Statement; decide
theorem octUp : Statement .octUp := by unfold Statement; decide
theorem assignPress (key : Line) : Statement (.assignPress key) := by
  unfold Statement; revert key; decide
theorem assignRelease (key : Line) : Statement (.assignRelease key) := by
  unfold Statement; revert key; decide
theorem encNoteOn (line : Line) (slot : SlotIx) : Statement (.encNoteOn line slot) := by
  unfold Statement; revert line slot; decide
theorem encNoteOff (line : Line) (slot : SlotIx) : Statement (.encNoteOff line slot) := by
  unfold Statement; revert line slot; decide
theorem encCc (c : SlotIx) : Statement (.encCc c) := by
  unfold Statement; revert c; decide

end Sys2Proof.Laws.MatchesTableRow
end

