-- ==== Sys2Proof/Laws/Step.lean ====
section
/-! SUPPORT. What a step can do, said once: the inversion of step, of fetch, and of every operation's meaning. -/

namespace Sys2Proof.Machine

/-- A step that goes on is a reset cycle, or the fetched operation's effect, and then the pins move on. -/
theorem step_next_cases {s t : State} (h : step s = .next t) :
    (s.inputs.rst = true ∧ t = s.resetRegisters.nextCycle) ∨
    (s.inputs.rst = false ∧ ∃ i u, fetch s = .ok i ∧ exec i s = .next u ∧ t = u.nextCycle) := by
  unfold step at h
  split at h
  · rename_i hr
    exact .inl ⟨hr, by injection h with h; exact h.symm⟩
  · rename_i hr
    split at h
    · rename_i i hi
      obtain ⟨u, hu, rfl⟩ := onNext_eq_next.mp h
      exact .inr ⟨by simpa using hr, i, u, hi, hu, rfl⟩
    · cases h

/-- A step without reset runs the fetched operation (R39). -/
theorem step_of_fetch {s : State} {i : Instr} (hr : s.inputs.rst = false) (hi : fetch s = .ok i) :
    step s = onNext State.nextCycle (exec i s) := by
  simp [step, hr, hi]

theorem step_of_rst {s : State} (hr : s.inputs.rst = true) : step s = .next s.resetRegisters.nextCycle := by
  simp [step, hr]

/-- A sequencer code is one of the eleven states or a reserved code (R24). -/
theorem seqCode_cases (x : SeqCode) :
    x = sIdle ∨ x = sScan ∨ x = sTx ∨ x = sWait ∨ x = sFlash ∨ x = sFlashGap ∨ x = sOvlTop ∨ x = sOvlCh ∨ x = sOvlChw ∨
      x = sOvlOctdn ∨ x = sOvlOctup ∨ 11 ≤ x.toNat := by
  revert x; decide

/-- The operations a cycle can fetch, each with the state and condition that select it (R39, R92). -/
theorem fetch_cases {s : State} {i : Instr} (h : fetch s = .ok i) :
    (s.st = sIdle ∧ s.inputs.btnIn = true ∧ i = .overlayEnter) ∨ (s.st = sIdle ∧ s.inputs.btnIn = false ∧ i = .pollSample) ∨
    (s.st = sScan ∧ s.pend ≠ 0#13 ∧ i = .scanEdge) ∨ (s.st = sScan ∧ s.pend = 0#13 ∧ i = .scanEnd) ∨
    (s.st = sTx ∧ i = .txByte) ∨ (s.st = sWait ∧ i = .waitTick) ∨ (s.st = sFlash ∧ i = .flashOn) ∨
    (s.st = sFlashGap ∧ i = .flashOff) ∨ (s.st = sOvlTop ∧ s.inputs.btnIn = true ∧ i = .overlayLoop) ∨
    (s.st = sOvlTop ∧ s.inputs.btnIn = false ∧ i = .overlayExit) ∨ (s.st = sOvlCh ∧ i = .chselTest) ∨
    (s.st = sOvlChw ∧ i = .chselRepeat) ∨ (s.st = sOvlOctdn ∧ i = .octDown) ∨ (s.st = sOvlOctup ∧ i = .octUp) := by
  rcases seqCode_cases s.st with e | e | e | e | e | e | e | e | e | e | e | e <;>
    cases hb : s.inputs.btnIn <;> by_cases hp : s.pend = 0#13 <;>
    simp_all [fetch, State.selector, decode, decodeState]
  all_goals
    split at h <;> first | omega | cases h

/-- Outside the codes 11..15 a cycle fetches an operation (R24, R39). -/
theorem fetch_ok {s : State} (h : s.st.toNat ≤ 10) : ∃ i, fetch s = .ok i := by
  rcases seqCode_cases s.st with e | e | e | e | e | e | e | e | e | e | e | e
  all_goals first
    | omega
    | exact ⟨_, by simp [fetch, State.selector, decode, decodeState, e]; rfl⟩

/-- The codes 11..15 fetch nothing (R25). -/
theorem fetch_error {s : State} (h : 11 ≤ s.st.toNat) : fetch s = .error (.reservedState s.st) := by
  simp only [fetch, State.selector, decode, decodeState]
  split <;> first | rfl | omega

/-- With an edge pending, SCAN_EDGE processes the lowest one (R103). -/
theorem execScanEdge_of_lowest {s : State} {line : Nat} (h : lowestIn 13 s.pend.getLsbD = some line) :
    exec .scanEdge s = .next (s.scanEvent line) := by
  simp [exec, execScanEdge, h]

/-- SCAN_EDGE goes on only with the lowest pending edge. -/
theorem execScanEdge_next {s t : State} (h : exec .scanEdge s = .next t) :
    ∃ line, lowestIn 13 s.pend.getLsbD = some line ∧ t = s.scanEvent line := by
  simp only [exec, execScanEdge] at h
  split at h
  · cases h
  · rename_i line hl
    exact ⟨line, hl, by injection h with h; exact h.symm⟩

/-- A non-zero edge mask has a lowest edge (R10). -/
theorem lowest_pend {k : Keys} (h : k ≠ 0#13) : ∃ line, lowestIn 13 k.getLsbD = some line := by
  cases hl : lowestIn 13 k.getLsbD with
  | some line => exact ⟨line, rfl⟩
  | none =>
    rw [lowestIn_eq_none] at hl
    exact absurd (BitVec.eq_of_getLsbD_eq fun i hi => by simpa using hl i hi) h

/-- The three effects of TX_BYTE (R147): hold, end of message, next byte. -/
theorem State.execTxByte_cases (s : State) :
    (s.inputs.txReady = false ∧ exec .txByte s = .next s.quiet) ∨
    (s.inputs.txReady = true ∧ s.atLastByte = true ∧ exec .txByte s = .next ({ s.quiet with txIdx := 0#2 }.goto s.txRet)) ∨
    (s.inputs.txReady = true ∧ s.atLastByte = false ∧
      exec .txByte s = .next { s.quiet with txIdx := s.txIdxNext, freeIdx := s.freeIdxAfter (s.txIdx == 3#2) }) := by
  cases hr : s.inputs.txReady <;> cases hl : s.atLastByte <;> simp [exec, execTxByte, hr, hl]

/-- The three effects of WAIT_TICK (R208): leave, count, hold. -/
theorem State.execWaitTick_cases (s : State) :
    (s.waitCnt = 0#16 ∧ exec .waitTick s = .next (s.quiet.goto s.waitRet)) ∨
    (s.waitCnt ≠ 0#16 ∧ s.inputs.tickMs = true ∧ exec .waitTick s = .next { s.quiet with waitCnt := s.waitCnt - 1#16 }) ∨
    (s.waitCnt ≠ 0#16 ∧ s.inputs.tickMs = false ∧ exec .waitTick s = .next s.quiet) := by
  by_cases h : s.waitCnt = 0#16 <;> cases ht : s.inputs.tickMs <;> simp [exec, execWaitTick, h, ht]

/-- What one cycle without reset does to the registers, before the pins move on: one case for each way a transition of R39 can
go, with the conditions that select it. -/
inductive State.Effect (s : State) : State → Prop
  | overlayEnter (st : s.st = sIdle) (btn : s.inputs.btnIn = true) :
      s.Effect ({ s.quiet with ovl := true, flashCnt := s.preset }.goto sFlash)
  | pollSample (st : s.st = sIdle) (btn : s.inputs.btnIn = false) :
      s.Effect ({ s.quiet with
        cur := s.inputs.keyIn
        pend := keyMask s.cfg &&& (s.prev ^^^ s.inputs.keyIn) }.goto sScan)
  | scanEdge (line : Nat) (st : s.st = sScan) (pend : s.pend ≠ 0#13) (low : lowestIn 13 s.pend.getLsbD = some line) :
      s.Effect (s.scanEvent line)
  | scanEnd (st : s.st = sScan) (pend : s.pend = 0#13) : s.Effect ({ s.quiet with prev := s.cur }.goto sIdle)
  | txHold (st : s.st = sTx) (ready : s.inputs.txReady = false) : s.Effect s.quiet
  | txEnd (st : s.st = sTx) (ready : s.inputs.txReady = true) (last : s.atLastByte = true) :
      s.Effect ({ s.quiet with txIdx := 0#2 }.goto s.txRet)
  | txNext (st : s.st = sTx) (ready : s.inputs.txReady = true) (last : s.atLastByte = false) :
      s.Effect { s.quiet with txIdx := s.txIdxNext, freeIdx := s.freeIdxAfter (s.txIdx == 3#2) }
  | waitEnd (st : s.st = sWait) (cnt : s.waitCnt = 0#16) : s.Effect (s.quiet.goto s.waitRet)
  | waitTick (st : s.st = sWait) (cnt : s.waitCnt ≠ 0#16) (tick : s.inputs.tickMs = true) :
      s.Effect { s.quiet with waitCnt := s.waitCnt - 1#16 }
  | waitHold (st : s.st = sWait) (cnt : s.waitCnt ≠ 0#16) (tick : s.inputs.tickMs = false) : s.Effect s.quiet
  | flashesDone (st : s.st = sFlash) (cnt : s.flashCnt = 0#2) : s.Effect (s.quiet.goto sOvlTop)
  | flashOn (st : s.st = sFlash) (cnt : s.flashCnt ≠ 0#2) :
      s.Effect ({ s.quiet with led := true }.startWait s.cfg.params.flashOnMs sFlashGap)
  | flashOff (st : s.st = sFlashGap) :
      s.Effect ({ s.quiet with
        led := false
        flashCnt := s.flashCntNext
        freeIdx := s.freeIdxAfter (s.flashCnt == 0#2) }.startWait s.cfg.params.flashOffMs sFlash)
  | overlayLoop (st : s.st = sOvlTop) (btn : s.inputs.btnIn = true) : s.Effect ({ s.quiet with chIdx := 0#3 }.goto sOvlCh)
  | overlayExit (st : s.st = sOvlTop) (btn : s.inputs.btnIn = false) :
      s.Effect ({ s.quiet with ovl := false, preset := s.preset + 1#2 }.startWait s.cfg.params.settleMs sIdle)
  | chselDone (st : s.st = sOvlCh) (idx : s.chIdx = 4#3) : s.Effect (s.quiet.goto sOvlOctdn)
  | chselHeld (st : s.st = sOvlCh) (idx : s.chIdx ≠ 4#3) (level : s.chselLevel = true) :
      s.Effect ({ s.quiet.loadCc (s.chIdx.setWidth 8) with
        freeIdx := s.freeIdxAfter (decide (4 < s.chIdx.toNat)) }.startTx sOvlChw)
  | chselNext (st : s.st = sOvlCh) (idx : s.chIdx ≠ 4#3) (level : s.chselLevel = false) :
      s.Effect { s.quiet with chIdx := s.chIdxNext, freeIdx := s.freeIdxAfter (decide (4 < s.chIdx.toNat)) }
  | chselRepeat (st : s.st = sOvlChw) :
      s.Effect ({ s.quiet with
        chIdx := s.chIdxNext
        freeIdx := s.freeIdxAfter (s.chIdx == 7#3) }.startWait s.cfg.params.chRepeatMs sOvlCh)
  | octDownStep (st : s.st = sOvlOctdn) (key : s.keyLevel s.cfg.params.octDownLine = true)
      (room : s.cfg.params.octMin < s.octave.toNat) :
      s.Effect ({ s.quiet with octave := s.octave - 1#4 }.startWait s.cfg.params.octRepeatMs sOvlOctup)
  | octDownClamped (st : s.st = sOvlOctdn) (key : s.keyLevel s.cfg.params.octDownLine = true)
      (room : s.octave.toNat ≤ s.cfg.params.octMin) :
      s.Effect (s.quiet.startWait s.cfg.params.octRepeatMs sOvlOctup)
  | octDownNone (st : s.st = sOvlOctdn) (key : s.keyLevel s.cfg.params.octDownLine = false) :
      s.Effect (s.quiet.goto sOvlOctup)
  | octUpStep (st : s.st = sOvlOctup) (key : s.keyLevel s.cfg.params.octUpLine = true)
      (room : s.octave.toNat < s.cfg.params.octMax) :
      s.Effect ({ s.quiet with octave := s.octave + 1#4 }.startWait s.cfg.params.octRepeatMs sOvlTop)
  | octUpClamped (st : s.st = sOvlOctup) (key : s.keyLevel s.cfg.params.octUpLine = true)
      (room : s.cfg.params.octMax ≤ s.octave.toNat) :
      s.Effect (s.quiet.startWait s.cfg.params.octRepeatMs sOvlTop)
  | octUpNone (st : s.st = sOvlOctup) (key : s.keyLevel s.cfg.params.octUpLine = false) : s.Effect (s.quiet.goto sOvlTop)

/-- Everything a fetched operation can do. -/
theorem exec_effect {s u : State} {i : Instr} (hi : fetch s = .ok i) (hu : exec i s = .next u) : s.Effect u := by
  rcases fetch_cases hi with ⟨a, b, rfl⟩ | ⟨a, b, rfl⟩ | ⟨a, b, rfl⟩ | ⟨a, b, rfl⟩ | ⟨a, rfl⟩ | ⟨a, rfl⟩ | ⟨a, rfl⟩ | ⟨a, rfl⟩ |
    ⟨a, b, rfl⟩ | ⟨a, b, rfl⟩ | ⟨a, rfl⟩ | ⟨a, rfl⟩ | ⟨a, rfl⟩ | ⟨a, rfl⟩
  · cases hu; exact .overlayEnter a b
  · cases hu; exact .pollSample a b
  · obtain ⟨line, hl, rfl⟩ := execScanEdge_next hu
    exact .scanEdge line a b hl
  · cases hu; exact .scanEnd a b
  · rcases s.execTxByte_cases with ⟨r, e⟩ | ⟨r, l, e⟩ | ⟨r, l, e⟩ <;> rw [e] at hu <;> cases hu
    · exact .txHold a r
    · exact .txEnd a r l
    · exact .txNext a r l
  · rcases s.execWaitTick_cases with ⟨c, e⟩ | ⟨c, t, e⟩ | ⟨c, t, e⟩ <;> rw [e] at hu <;> cases hu
    · exact .waitEnd a c
    · exact .waitTick a c t
    · exact .waitHold a c t
  · simp only [exec, execFlashOn] at hu
    split at hu <;> cases hu
    · exact .flashesDone a ‹_›
    · exact .flashOn a ‹_›
  · cases hu; exact .flashOff a
  · cases hu; exact .overlayLoop a b
  · cases hu; exact .overlayExit a b
  · simp only [exec, execChselTest] at hu
    split at hu
    · cases hu; exact .chselDone a ‹_›
    · rename_i c
      split at hu <;> rename_i l <;> cases hu
      · exact .chselHeld a c l
      · exact .chselNext a c (by simpa using l)
  · cases hu; exact .chselRepeat a
  · simp only [exec, execOctDown] at hu
    split at hu
    · split at hu <;> cases hu
      · exact .octDownStep a ‹_› ‹_›
      · exact .octDownClamped a ‹_› (by omega)
    · rename_i l
      cases hu; exact .octDownNone a (by simpa using l)
  · simp only [exec, execOctUp] at hu
    split at hu
    · split at hu <;> cases hu
      · exact .octUpStep a ‹_› ‹_›
      · exact .octUpClamped a ‹_› (by omega)
    · rename_i l
      cases hu; exact .octUpNone a (by simpa using l)

/-- Everything a step can do: a reset cycle, or an effect of R39; then the pins move on. -/
theorem step_effect {s t : State} (h : step s = .next t) :
    (s.inputs.rst = true ∧ t = s.resetRegisters.nextCycle) ∨ (s.inputs.rst = false ∧ ∃ u, s.Effect u ∧ t = u.nextCycle) := by
  rcases step_next_cases h with h | ⟨hr, i, u, hi, hu, ht⟩
  · exact .inl h
  · exact .inr ⟨hr, u, exec_effect hi hu, ht⟩

/-- No step writes the parameters (R41). -/
theorem step_cfg {s t : State} (h : step s = .next t) : t.cfg = s.cfg := by
  have pins (u : State) : u.nextCycle.cfg = u.cfg := by
    rcases u.nextCycle_cases with ⟨_, _, -, e⟩ | ⟨-, e⟩ <;> rw [e]
  rcases step_effect h with ⟨-, rfl⟩ | ⟨-, u, hu, rfl⟩
  · exact pins _
  · rw [pins]
    cases hu
    case scanEdge line st pend low =>
      rcases s.scanEvent_cases line with ⟨-, e⟩ | ⟨i, -, -, e⟩ <;> rw [e]
      · rfl
      · split <;> rfl
    case chselHeld =>
      rcases s.quiet.loadCc_cases (s.chIdx.setWidth 8) with ⟨-, e⟩ | ⟨-, e⟩ <;> rw [e] <;> rfl
    all_goals rfl

end Sys2Proof.Machine
end

