-- ==== Sys2Proof/Laws/Script.lean ====
section
/-! SUPPORT. What a cycle and a command of a stimulus script can do, and an invariant carried along a run. -/

namespace Sys2Proof.Machine

/-- One cycle of a run: the machine steps on, or it stops and keeps its state and the run is marked. -/
theorem Bench.cycle_cases (rst : Bool) (b : Bench) :
    let s := b.machine.drive { b.pins with rst := rst }
    (∃ t, step s = .next t ∧
      b.cycle rst = { b with machine := t, sent := b.sent ++ s.accepted.toList, cycles := b.cycles + 1 }) ∨
    ((∀ t, step s ≠ .next t) ∧ b.cycle rst = { b with machine := s, cycles := b.cycles + 1, noFault := false }) := by
  intro s
  cases h : step s with
  | next t => exact .inl ⟨t, rfl, by simp only [Bench.cycle, s, h] at *⟩
  | fault r => exact .inr ⟨by simp, by simp only [Bench.cycle, s, h] at *⟩
  | refused r => exact .inr ⟨by simp, by simp only [Bench.cycle, s, h] at *⟩

/-- A reset cycle of a run always steps on. -/
theorem Bench.cycle_reset (b : Bench) :
    let s := b.machine.drive { b.pins with rst := true }
    b.cycle true =
      { b with machine := s.resetRegisters.nextCycle, sent := b.sent ++ s.accepted.toList, cycles := b.cycles + 1 } := by
  intro s
  have h : step s = .next s.resetRegisters.nextCycle := step_of_rst rfl
  simp only [Bench.cycle, s] at h ⊢
  rw [h]

/-- What every cycle keeps, every command keeps, if it does not look at the pins, the bytes or the checks. -/
theorem Bench.command_keeps {P : Bench → Prop} (hcycle : ∀ rst b, P b → P (b.cycle rst))
    (hother : ∀ b pins sent expects reached, P b →
      P { b with pins := pins, sent := sent, expects := expects, reached := reached })
    (bound : Nat) (b : Bench) (c : Cmd) (h : P b) : P (b.command bound c) := by
  have hcycles (n : Nat) : ∀ b, P b → P (b.cyclesFor n) := by
    induction n with
    | zero => exact fun _ h => h
    | succ n ih => exact fun b h => ih _ (hcycle _ _ h)
  have hrunTo (code : SeqCode) (n : Nat) : ∀ b, P b → P (b.runTo code n) := by
    induction n with
    | zero => exact fun b h => hother b b.pins b.sent b.expects false h
    | succ n ih =>
      intro b h
      simp only [Bench.runTo]
      split
      · exact hcycle _ _ h
      · exact ih _ (hcycle _ _ h)
  unfold Bench.command
  split
  · cases c with
    | reset => exact hcycle true b h
    | run n => exact hcycles n b h
    | runTo code => exact hrunTo code bound b h
    | expectTx bytes => exact hother b b.pins [] _ b.reached h
    | expectReg r v => exact hother b b.pins b.sent _ b.reached h
    | _ => exact hother b _ b.sent b.expects b.reached h
  · exact h

/-- What the launch has and every cycle keeps, the whole run has. -/
theorem runScript_keeps {P : Bench → Prop} (hcycle : ∀ rst b, P b → P (b.cycle rst))
    (hother : ∀ b pins sent expects reached, P b →
      P { b with pins := pins, sent := sent, expects := expects, reached := reached })
    (bound : Nat) (script : List Cmd) (s : State) (h : P (Bench.launch s)) : P (runScript bound script s) := by
  unfold runScript
  generalize Bench.launch s = b at h
  induction script generalizing b with
  | nil => exact h
  | cons c rest ih => exact ih _ (Bench.command_keeps hcycle hother bound b c h)

end Sys2Proof.Machine
end

