-- ==== Sys2Proof/Tests/Slice0.lean ====
section
/-! SUPPORT. Tests: the checks of R8 and of Instr.wf refuse, words written out from spec/30_encoding.md decode, single steps
give what spec/95_test_vectors.md gives (each test names its vector), and each statement's hypotheses are met somewhere. -/

namespace Sys2Proof.Tests

open Sys2Proof.Machine

/-! ## Helpers -/

/-- The next state, if there is one. -/
def nextOf : StepOutcome → Option State
  | .next t => some t
  | .fault _ => none
  | .refused _ => none

/-- The parts `f` of the state after `i`. -/
def result {α : Type} (i : Instr) (s : State) (f : State → α) : Option α := (nextOf (exec i s)).map f

/-- The reset state in sequencer state `code`, with given inputs. -/
def inState (code : SeqCode) (i : Inputs := idleInputs) : State := { State.reset with st := code, inputs := i }

/-- Idle inputs with key levels. -/
def keys (k : Keys) : Inputs := { idleInputs with keyIn := k }

/-- Idle inputs with the button held. -/
def button : Inputs := { idleInputs with btnIn := true }

/-- A pool from its four owners, none for FREE. -/
def poolOf (a b c d : Option Line) : Pool :=
  let slot : Option Line → Slot := fun o => match o with
    | none => ⟨false, 0#4⟩
    | some k => ⟨true, k⟩
  ⟨slot a, slot b, slot c, slot d⟩

/-- What a pool and the result registers hold. -/
def report (s : State) : Pool × Bool × BitVec 3 × Line × SlotIx := (s.pool, s.resValid, s.resKind, s.resLine, s.resSlot)

/-- Why R8 refuses a record. -/
def refusal (p : Params) : Option ParamError :=
  match Config.ofParams p with
  | .ok _ => none
  | .error e => some e

/-- The default parameters with `CC_LEN = 3`. -/
def longCc : Config := ⟨{ Params.default with ccLen := 3 }, by decide⟩

/-- The default parameters with `KEY_MASK = 0FFF`. -/
def masked : Config := ⟨{ Params.default with keyMask := 0x0FFF }, by decide⟩

/-- A message in the buffer, about to be sent. -/
def sending (inputs : List Inputs) : State :=
  match inputs with
  | [] => inState 2#4
  | i :: rest =>
    { inState 2#4 i with
      msgB0 := 0x90#8, msgB1 := 0x3C#8, msgB2 := 0x64#8, txRet := 1#4, stim := rest
      cur := 1#13, pool := poolOf (some 0#4) none none none, resLine := 0#4 }

/-- Inputs with the transmitter ready or not. -/
def ready (b : Bool) : Inputs := { idleInputs with txReady := b }

/-- Inputs with a tick or none. -/
def tick (b : Bool) : Inputs := { idleInputs with tickMs := b }

/-! ## R8 refuses each ill-formed record by its reason -/

theorem test_wf_default : refusal Params.default = none := by decide
theorem test_wf_keyMask : refusal { Params.default with keyMask := 0x2000 } = some .keyMask := by decide
theorem test_wf_noteOffset : refusal { Params.default with noteOffset := #v[0, 0, 0, 0, 0, 0, 0, 0, 0, 0, 0, 0, 13] } =
    some .noteOffset := by decide
theorem test_wf_velocity : refusal { Params.default with vel := #v[128, 0, 0, 0, 0, 0, 0, 0, 0, 0, 0, 0, 0] } =
    some .velocity := by decide
theorem test_wf_overlayLine : refusal { Params.default with octUpLine := 13 } = some .overlayLine := by decide
theorem test_wf_overlayLinesClash : refusal { Params.default with octUpLine := 3 } = some .overlayLinesClash := by decide
theorem test_wf_octaves : refusal { Params.default with octMin := 6 } = some .octaves := by decide
theorem test_wf_noteTooHigh : refusal { Params.default with octMax := 10 } = some .noteTooHigh := by decide
theorem test_wf_ccLen : refusal { Params.default with ccLen := 4 } = some .ccLen := by decide
theorem test_wf_ccCtrl : refusal { Params.default with ccCtrl := 128 } = some .ccCtrl := by decide
theorem test_wf_delay : refusal { Params.default with settleMs := 65536 } = some .delay := by decide

/-! ## Ill-formed operations -/

theorem test_instr_wf_lines :
    ((Instr.assignPress 13#4).wf, (Instr.assignRelease 15#4).wf, (Instr.encNoteOn 13#4 0#2).wf,
      (Instr.encNoteOff 14#4 3#2).wf) = (false, false, false, false) := by decide
theorem test_instr_wf_line_12 :
    ((Instr.assignPress 12#4).wf, (Instr.assignRelease 12#4).wf, (Instr.encNoteOn 12#4 0#2).wf,
      (Instr.encNoteOff 12#4 3#2).wf) = (true, true, true, true) := by decide

/-! ## Words written out from R80, R84 to R86 and R92, one for each constructor -/

theorem test_decode_overlayEnter : decode (.st4 0b0000#4 true false) = .ok .overlayEnter := by decide
theorem test_decode_pollSample : decode (.st4 0b0000#4 false false) = .ok .pollSample := by decide
theorem test_decode_scanEdge : decode (.st4 0b0001#4 false true) = .ok .scanEdge := by decide
theorem test_decode_scanEnd : decode (.st4 0b0001#4 false false) = .ok .scanEnd := by decide
theorem test_decode_txByte : decode (.st4 0b0010#4 false false) = .ok .txByte := by decide
theorem test_decode_waitTick : decode (.st4 0b0011#4 false false) = .ok .waitTick := by decide
theorem test_decode_flashOn : decode (.st4 0b0100#4 false false) = .ok .flashOn := by decide
theorem test_decode_flashOff : decode (.st4 0b0101#4 false false) = .ok .flashOff := by decide
theorem test_decode_overlayLoop : decode (.st4 0b0110#4 true false) = .ok .overlayLoop := by decide
theorem test_decode_overlayExit : decode (.st4 0b0110#4 false false) = .ok .overlayExit := by decide
theorem test_decode_chselTest : decode (.st4 0b0111#4 false false) = .ok .chselTest := by decide
theorem test_decode_chselRepeat : decode (.st4 0b1000#4 false false) = .ok .chselRepeat := by decide
theorem test_decode_octDown : decode (.st4 0b1001#4 false false) = .ok .octDown := by decide
theorem test_decode_octUp : decode (.st4 0b1010#4 false false) = .ok .octUp := by decide
theorem test_decode_assignPress : decode (.evt5 0b11010#5) = .ok (.assignPress 10#4) := by decide
theorem test_decode_assignRelease : decode (.evt5 0b01010#5) = .ok (.assignRelease 10#4) := by decide
theorem test_decode_encNoteOn : decode (.note 0b10010010#8 7#4) = .ok (.encNoteOn 7#4 2#2) := by decide
theorem test_decode_encNoteOff : decode (.note 0b10000001#8 7#4) = .ok (.encNoteOff 7#4 1#2) := by decide
theorem test_decode_encCc : decode (.control 0b10110011#8) = .ok (.encCc 3#2) := by decide
theorem test_decode_refuses :
    decode (.st4 0b1011#4 false false) = .error (.reservedState 11#4) ∧
    decode (.evt5 0b11101#5) = .error (.illegalLine 13#4) ∧ decode (.note 0x94#8 0#4) = .error (.notAStatus 0x94#8) ∧
    decode (.control 0x90#8) = .error (.notAStatus 0x90#8) := by decide

/-- E9: mask first, then compare. -/
theorem test_masked_equality :
    (statusMatches 0x93#8 0x90#8, statusMatches 0x83#8 0x80#8, statusMatches 0x83#8 0x90#8) = (true, true, false) := by decide

/-- A table word placed after reset is the operation the next step fetches. -/
theorem test_fetch_word_octUp : fetch (State.reset.withFetchWord 8 0x0A) = .ok .octUp := by decide
theorem test_fetch_word_press : ((State.reset.withFetchWord 8 0x17).st, (State.reset.withFetchWord 8 0x17).event) =
    (1#4, some 0b10111#5) := by decide

/-! ## One step each (spec/95_test_vectors.md) -/

/-- K1. -/
theorem test_pollSample_k1 : result .pollSample (inState 0#4 (keys 0b0000000000101#13)) (fun t => (t.cur, t.pend, t.st, t.prev)) =
    some (0b0000000000101#13, 0b0000000000101#13, 1#4, 0#13) := by decide
/-- K5: an unmasked line is sampled and never an edge. -/
theorem test_pollSample_k5 :
    result .pollSample { inState 0#4 (keys 0b1000000000000#13) with cfg := masked } (fun t => (t.cur, t.pend)) =
      some (0b1000000000000#13, 0#13) := by decide
/-- K2. -/
theorem test_scanEnd_k2 : result .scanEnd { inState 1#4 with cur := 0b101#13 } (fun t => (t.prev, t.st, t.resValid)) =
    some (0b101#13, 0#4, false) := by decide
/-- K4, first edge: line 0 is released before line 2 is pressed. -/
theorem test_scanEdge_k4 :
    result .scanEdge { inState 1#4 with pend := 0b101#13, cur := 0b110#13, pool := poolOf (some 0#4) (some 1#4) none none }
      (fun t => (t.pend, t.pool.s0, t.st, t.message)) =
      some (0b100#13, ⟨false, 0#4⟩, 2#4, [0x80#8, 0x3C#8, 0x64#8]) := by decide
/-- P2: the fifth press reports OVERFLOW and stays in `S_SCAN`. -/
theorem test_scanEdge_p2 :
    result .scanEdge { inState 1#4 with
      pend := 0b10000#13, cur := 0b11111#13, pool := poolOf (some 0#4) (some 1#4) (some 2#4) (some 3#4) }
      (fun t => (t.st, report t)) =
      some (1#4, poolOf (some 0#4) (some 1#4) (some 2#4) (some 3#4), true, 3#3, 4#4, 0#2) := by decide
/-- V2. -/
theorem test_assignPress_v2 :
    result (.assignPress 9#4) { State.reset with pool := poolOf (some 3#4) none (some 7#4) none } report =
      some (poolOf (some 3#4) (some 9#4) (some 7#4) none, true, 0#3, 9#4, 1#2) := by decide
/-- V6: the hit is tested before the free search. -/
theorem test_assignPress_v6 :
    result (.assignPress 5#4) { State.reset with pool := poolOf none none (some 5#4) none } report =
      some (poolOf none none (some 5#4) none, true, 1#3, 5#4, 2#2) := by decide
/-- V3. -/
theorem test_assignRelease_v3 :
    result (.assignRelease 9#4) { State.reset with pool := poolOf (some 3#4) (some 9#4) (some 7#4) none } report =
      some (poolOf (some 3#4) none (some 7#4) none, true, 2#3, 9#4, 1#2) := by decide
/-- V5. -/
theorem test_assignRelease_v5 :
    result (.assignRelease 4#4) { State.reset with pool := poolOf (some 0#4) (some 1#4) (some 2#4) (some 3#4) } report =
      some (poolOf (some 0#4) (some 1#4) (some 2#4) (some 3#4), true, 4#3, 4#4, 0#2) := by decide
/-- N2. -/
theorem test_encNoteOn_n2 : result (.encNoteOn 12#4 0#2) { State.reset with octave := 9#4 } State.message =
    some [0x90#8, 0x78#8, 0x64#8] := by decide
/-- N4. -/
theorem test_encNoteOn_n4 : result (.encNoteOn 5#4 3#2) State.reset State.message = some [0x93#8, 0x41#8, 0x64#8] := by decide
/-- N6: the octave as it is now. -/
theorem test_encNoteOff_n6 : result (.encNoteOff 5#4 0#2) { State.reset with octave := 6#4 } State.message =
    some [0x80#8, 0x4D#8, 0x64#8] := by decide
/-- N5. -/
theorem test_encNoteOff_n5 : result (.encNoteOff 5#4 3#2) State.reset State.message = some [0x83#8, 0x41#8, 0x64#8] := by decide
/-- N8. -/
theorem test_encCc_n8 : result (.encCc 3#2) { State.reset with preset := 3#2 } State.message = some [0xB3#8, 0x03#8] := by decide
/-- N9. -/
theorem test_encCc_n9 : result (.encCc 3#2) { State.reset with cfg := longCc, preset := 3#2 } State.message =
    some [0xB3#8, 0x10#8, 0x03#8] := by decide
/-- T1: the bytes, and the cycles in which they leave. -/
theorem test_txByte_t1 : (sending [ready true, ready false, ready true, ready true]).acceptedIn 4 =
    [0x90#8, 0x3C#8, 0x64#8] := by decide
/-- T1, cycle 4: the last byte. -/
theorem test_txByte_last : result .txByte { sending [ready true] with txIdx := 2#2 } (fun t => (t.txIdx, t.st)) =
    some (0#2, 1#4) := by decide
/-- F1. -/
theorem test_overlayEnter_f1 : result .overlayEnter { inState 0#4 button with preset := 2#2 }
    (fun t => (t.ovl, t.flashCnt, t.st, t.cur, t.pend)) = some (true, 2#2, 4#4, 0#13, 0#13) := by decide
/-- F2. -/
theorem test_flashOn_f2 : result .flashOn (inState 4#4) (fun t => (t.st, t.led)) = some (6#4, false) := by decide
/-- F3. -/
theorem test_flashOn_f3 : result .flashOn { inState 4#4 with flashCnt := 2#2 } (fun t => (t.led, t.waitCnt, t.waitRet, t.st)) =
    some (true, 150#16, 5#4, 3#4) := by decide
/-- F4. -/
theorem test_flashOff_f4 : result .flashOff { inState 5#4 with flashCnt := 2#2, led := true }
    (fun t => (t.led, t.flashCnt, t.waitCnt, t.waitRet)) = some (false, 1#2, 150#16, 4#4) := by decide
/-- P3, C3. -/
theorem test_overlayLoop_p3 : result .overlayLoop { inState 6#4 button with chIdx := 4#3 } (fun t => (t.chIdx, t.st)) =
    some (0#3, 7#4) := by decide
/-- F5. -/
theorem test_overlayExit_f5 : result .overlayExit { inState 6#4 with ovl := true, preset := 3#2 }
    (fun t => (t.ovl, t.preset, t.waitCnt, t.waitRet, t.st)) = some (false, 0#2, 50#16, 0#4, 3#4) := by decide
/-- P3, C5: line 1 held. -/
theorem test_chselTest_p3 : result .chselTest { inState 7#4 (keys 0b10#13) with chIdx := 1#3 }
    (fun t => (t.message, t.txRet, t.st, t.chIdx)) = some ([0xB1#8, 0x00#8], 8#4, 2#4, 1#3) := by decide
/-- F9: the last test moves on. -/
theorem test_chselTest_f9 : result .chselTest { inState 7#4 with chIdx := 4#3 } (fun t => (t.st, t.chIdx)) =
    some (9#4, 4#3) := by decide
/-- F10. -/
theorem test_chselRepeat_f10 : result .chselRepeat { inState 8#4 with chIdx := 1#3 } (fun t => (t.chIdx, t.waitCnt, t.waitRet)) =
    some (2#3, 100#16, 7#4) := by decide
/-- F6, o = 5. -/
theorem test_octDown_f6 : result .octDown (inState 9#4 (keys 0b0100000000000#13)) (fun t => (t.octave, t.waitCnt, t.waitRet)) =
    some (4#4, 400#16, 10#4) := by decide
/-- F6, o = 0: clamped, and the delay is taken. -/
theorem test_octDown_f6_clamped : result .octDown { inState 9#4 (keys 0b0100000000000#13) with octave := 0#4 }
    (fun t => (t.octave, t.waitCnt, t.st)) = some (0#4, 400#16, 3#4) := by decide
/-- F6, o = 5. -/
theorem test_octUp_f6 : result .octUp (inState 10#4 (keys 0b1000000000000#13)) (fun t => (t.octave, t.waitCnt, t.waitRet)) =
    some (6#4, 400#16, 6#4) := by decide
/-- F6, o = 9: clamped, and the delay is taken. -/
theorem test_octUp_f6_clamped : result .octUp { inState 10#4 (keys 0b1000000000000#13) with octave := 9#4 }
    (fun t => (t.octave, t.waitCnt, t.st)) = some (9#4, 400#16, 3#4) := by decide
/-- W1, first cycle. -/
theorem test_waitTick_w1 : result .waitTick { inState 3#4 with waitCnt := 2#16 } (fun t => (t.waitCnt, t.st)) =
    some (1#16, 3#4) := by decide
/-- W2. -/
theorem test_waitTick_w2 : result .waitTick { inState 3#4 (tick false) with waitRet := 6#4 } (fun t => t.st) =
    some 6#4 := by decide
/-- X1. -/
theorem test_reset_x1 :
    (nextOf (step { sending [{ idleInputs with rst := true }] with preset := 3#2, octave := 8#4, txIdx := 1#2 })).map
      (fun t => (t.st, t.pool, t.preset, t.octave, t.led, t.ovl)) =
      some (0#4, poolOf none none none none, 0#2, 5#4, false, false) := by decide
/-- T5. -/
theorem test_outputs_t5 : (State.reset.outputs.txValid, State.reset.outputs.txData, State.reset.outputs.txLast) =
    (false, 0#8, false) := by decide

/-! ## What the statements' hypotheses say is met: a concrete state, operands and, for each clause, a boundary value -/

/-- A legal state of the overlay, from its own reset state: `S_OVL_TOP`. -/
def overlayTop : State := { inState 6#4 with ovl := true }

/-- The settle wait. -/
def settling : State := { inState 3#4 with waitCnt := 50#16 }

theorem legal_pool_empty : Pool.empty.legal := by
  refine ⟨by unfold Pool.canonical; decide, ?_⟩
  intro i hi j hj _ h
  interval_cases i <;> cases h

theorem legal_reset : State.reset.legal :=
  ⟨by decide, by decide, by decide, legal_pool_empty, ⟨by decide, by decide, by decide⟩, by decide, by decide, by decide⟩

theorem legal_overlayTop : overlayTop.legal :=
  ⟨by decide, by decide, by decide, legal_pool_empty, ⟨by decide, by decide, by decide⟩, by decide, by decide, by decide⟩

theorem legal_settling : settling.legal :=
  ⟨by decide, by decide, by decide, legal_pool_empty, ⟨by decide, by decide, by decide⟩, by decide, by decide, by decide⟩


theorem legal_sending : (sending [ready true]).legal := by
  refine ⟨by decide, by decide, by decide, ⟨by unfold Pool.canonical; decide, ?_⟩, ⟨by decide, by decide, by decide⟩,
    by decide, by decide, by decide⟩
  intro i hi j hj hne hv hw
  interval_cases i <;> interval_cases j <;> first | exact absurd rfl hne | (cases hw; done) | cases hv

/-- Cycles with the transmitter ready, a tick, and no reset. -/
def readyCycles (n : Nat) : List Inputs := List.replicate n (ready true)

theorem witness_StepRunsSelectedOperation :
    State.reset.inputs.rst = false ∧
      decode (.st4 State.reset.st State.reset.inputs.btnIn (State.reset.pend != 0#13)) = .ok .pollSample := by decide

theorem witness_PinsTakeGivenInputsThenFreeOnes :
    (sending [ready true, ready false]).stim = [ready false] ∧ State.reset.stim = [] := by decide

theorem witness_OperationMapIsTheTable : (0#4 : Line).toNat ≤ 12 ∧ (12#4 : Line).toNat ≤ 12 := by decide

theorem witness_ResetCycleRestoresEveryRegister : (sending [{ idleInputs with rst := true }]).inputs.rst = true := by decide

theorem witness_ReservedSequencerCodesFaultAndAreNeverWritten :
    ((inState 11#4).inputs.rst = false ∧ 11 ≤ (inState 11#4).st.toNat) ∧
    (inState 15#4 { idleInputs with rst := true }).inputs.rst = true ∧
    (State.reset.seqLegal ∧ ∃ t, step State.reset = .next t) := by
  exact ⟨by decide, by decide, by decide, _, rfl⟩

theorem witness_StepGoesOnOutsideReservedCodes :
    (inState 10#4).st.toNat ≤ 10 ∧ (inState 11#4 { idleInputs with rst := true }).inputs.rst = true := by decide

theorem witness_OutputsAreMooreFunctions :
    State.reset.st ≠ 2#4 ∧ (sending [ready true]).st = 2#4 ∧ (sending [ready true]).txIdx = 0#2 ∧
    (sending [ready true]).msgLen ≠ 0#2 ∧ ({ sending [ready true] with txIdx := 1#2 } : State).txIdx = 1#2 ∧
    ({ sending [ready true] with txIdx := 2#2 } : State).txIdx = 2#2 := by decide

/-- The lowest and the highest line, and both kinds of outcome. -/
theorem witness_ScanEdgeIsAssignThenEncode :
    (∃ line < 13, ({ inState 1#4 with pend := 1#13 } : State).pend.getLsbD line = true ∧
      (∀ j < line, ({ inState 1#4 with pend := 1#13 } : State).pend.getLsbD j = false) ∧
      result .scanEdge { inState 1#4 with pend := 1#13 } (fun t => t.resKind) = some 4#3) ∧
    (∃ line < 13, line = 12 ∧ ({ inState 1#4 with pend := 0x1000#13, cur := 0x1000#13 } : State).pend.getLsbD line = true ∧
      (∀ j < line, ({ inState 1#4 with pend := 0x1000#13, cur := 0x1000#13 } : State).pend.getLsbD j = false) ∧
      result .scanEdge { inState 1#4 with pend := 0x1000#13, cur := 0x1000#13 } (fun t => t.resKind) = some 0#3) := by
  exact ⟨⟨0, by decide, by decide, by decide, by decide⟩, 12, by decide, rfl, by decide, by decide, by decide⟩

theorem witness_ScanEdgeClearsExactlyTheLowestEdge : ({ inState 1#4 with pend := 0x1001#13 } : State).pend ≠ 0#13 := by decide

theorem witness_ScanEdgeWithoutEdgeFaults : (inState 1#4).pend = 0#13 := by decide

/-- No edge, and the edge of line 12. -/
theorem witness_PollCompletesWithinItsCycles :
    ((inState 1#4).st = 1#4 ∧
      (inState 1#4).givenFor (1 + 4 * (List.range 13).countP (inState 1#4).pend.getLsbD)
        (fun i => i.rst = false ∧ i.txReady = true)) ∧
    (∃ s : State, s.st = 1#4 ∧ s.pend = 0x1000#13 ∧
      s.givenFor (1 + 4 * (List.range 13).countP s.pend.getLsbD) (fun i => i.rst = false ∧ i.txReady = true)) := by
  refine ⟨by decide, { inState 1#4 with pend := 0x1000#13, cur := 0x1000#13, stim := readyCycles 4 }, ?_⟩
  decide

/-- Lines 0 and 12; REUSE of slot 2, CLAIM of slot 0 and of slot 3, OVERFLOW. -/
theorem witness_AssignPressResult :
    ((0#4 : Line).toNat ≤ 12 ∧ (12#4 : Line).toNat ≤ 12) ∧
    (∃ p : Pool, ((p.get 2).v = true ∧ (p.get 2).k = 12#4) ∧ ∀ j < 2, ¬ ((p.get j).v = true ∧ (p.get j).k = 12#4)) ∧
    (∃ p : Pool, (∀ j < 4, ¬ ((p.get j).v = true ∧ (p.get j).k = 0#4)) ∧ (p.get 0).v = false) ∧
    (∃ p : Pool, (∀ j < 4, ¬ ((p.get j).v = true ∧ (p.get j).k = 12#4)) ∧ (p.get 3).v = false ∧
      ∀ j < 3, (p.get j).v = true) ∧
    (∃ p : Pool, (∀ j < 4, ¬ ((p.get j).v = true ∧ (p.get j).k = 12#4)) ∧ ∀ j < 4, (p.get j).v = true) :=
  ⟨by decide, ⟨poolOf (some 0#4) none (some 12#4) none, by decide⟩, ⟨Pool.empty, by decide⟩,
    ⟨poolOf (some 0#4) (some 1#4) (some 2#4) none, by decide⟩, ⟨poolOf (some 0#4) (some 1#4) (some 2#4) (some 3#4), by decide⟩⟩

/-- Lines 0 and 12; FREE of slot 0 and of slot 3, SPURIOUS. -/
theorem witness_AssignReleaseResult :
    ((0#4 : Line).toNat ≤ 12 ∧ (12#4 : Line).toNat ≤ 12) ∧
    (∃ p : Pool, (p.get 0).v = true ∧ (p.get 0).k = 0#4) ∧
    (∃ p : Pool, ((p.get 3).v = true ∧ (p.get 3).k = 12#4) ∧ ∀ j < 3, ¬ ((p.get j).v = true ∧ (p.get j).k = 12#4)) ∧
    (∃ p : Pool, ∀ j < 4, ¬ ((p.get j).v = true ∧ (p.get j).k = 12#4)) :=
  ⟨by decide, ⟨poolOf (some 0#4) none none none, by decide⟩, ⟨poolOf none none none (some 12#4), by decide⟩, ⟨Pool.empty, by decide⟩⟩

theorem witness_IllegalEventLinesAreRefused :
    13 ≤ (13#4 : Line).toNat ∧ 13 ≤ (15#4 : Line).toNat ∧
    ({ inState 1#4 with pend := 0x1000#13, cur := 0x1000#13 } : State).event = some 0b11100#5 := by decide

theorem witness_StepKeepsPoolInjective : State.reset.pool.legal ∧ ∃ t, step State.reset = .next t := ⟨legal_pool_empty, _, rfl⟩

/-- Line 1 is granted slot 0; then line 2 is pressed and line 3 released. -/
theorem witness_ReleaseFreesTheGrantedSlot :
    ∃ t u, exec (.assignPress 1#4) State.reset = .next t ∧ t.resKind ≠ 3#3 ∧
      (∀ c ∈ [(true, 2#4), (false, 3#4)], c.2 ≠ 1#4) ∧ arbiterCalls [(true, 2#4), (false, 3#4)] t = .next u :=
  ⟨_, _, rfl, by decide, by decide, rfl⟩

theorem witness_ControlChangeEncoding : State.reset.cfg.params.ccLen = 2 ∧ longCc.params.ccLen = 3 := by decide

theorem witness_NoteDataBytesAreExactAndLegal :
    ({ State.reset with octave := 0#4 } : State).octaveInBounds ∧ ({ State.reset with octave := 9#4 } : State).octaveInBounds := by
  decide

theorem witness_EncodersRefuseLinesOutsideTheTables : 13 ≤ (13#4 : Line).toNat ∧ 13 ≤ (15#4 : Line).toNat := by decide

/-- Offering, the last byte accepted, another byte accepted, none accepted. -/
theorem witness_TxByteResult :
    ((sending [ready true]).txIdx.toNat ≤ 2 ∧ (sending [ready true]).st = 2#4) ∧
    (∃ s : State, s.txIdx.toNat = 2 ∧ s.inputs.txReady = true ∧ s.txIdx.toNat + 1 = s.msgLen.toNat) ∧
    (∃ s : State, s.txIdx.toNat ≤ 2 ∧ s.inputs.txReady = true ∧ s.txIdx.toNat + 1 ≠ s.msgLen.toNat) ∧
    (∃ s : State, s.txIdx.toNat ≤ 2 ∧ s.inputs.txReady = false) :=
  ⟨by decide, ⟨{ sending [ready true] with txIdx := 2#2 }, by decide⟩, ⟨sending [ready true], by decide⟩,
    ⟨sending [ready false], by decide⟩⟩

theorem witness_MessageLeavesVerbatimInOrder :
    ∃ s : State, s.st = 2#4 ∧ s.txIdx = 0#2 ∧ (s.msgLen = 2#2 ∨ s.msgLen = 3#2) ∧ s.givenFor 4 (fun i => i.rst = false) ∧
      (s.upcoming.take 4).countP (·.txReady) = s.msgLen.toNat :=
  ⟨sending [ready true, ready false, ready true, ready true], by decide⟩

theorem witness_MessageEndReturnsToCaller :
    ∃ s : State, s.st = 2#4 ∧ s.txIdx = 0#2 ∧ (s.msgLen = 2#2 ∨ s.msgLen = 3#2) ∧ s.givenFor (3 + 1) (fun i => i.rst = false) ∧
      (s.upcoming.take 3).countP (·.txReady) + 1 = s.msgLen.toNat ∧
      (s.upcoming.take (3 + 1)).countP (·.txReady) = s.msgLen.toNat :=
  ⟨sending [ready true, ready false, ready true, ready true], by decide⟩

theorem witness_TransmitterStallHoldsTheState :
    ∃ s : State, s.st = 2#4 ∧ s.givenFor 3 (fun i => i.rst = false ∧ i.txReady = false) :=
  ⟨sending [ready false, ready false, ready false], by decide⟩

theorem witness_OfferedBytesKeepMidiFraming :
    (sending [ready true]).legal ∧ (sending [ready true]).st = 2#4 ∧ (sending [ready true]).txIdx = 0#2 :=
  ⟨legal_sending, by decide⟩

/-- A later byte of the same message. -/
theorem witness_OfferedBytesKeepMidiFraming_later :
    ∃ s : State, s.legal ∧ s.st = 2#4 ∧ s.txIdx ≠ 0#2 := by
  obtain ⟨h1, h2, h3, h4, h5, h6, h7, h8⟩ := legal_sending
  refine ⟨{ sending [ready true] with txIdx := 2#2 }, ⟨h1, ?_, h3, h4, h5, h6, h7, h8⟩, by decide⟩
  decide

theorem witness_FlashOnResult : (inState 4#4).flashCnt = 0#2 ∧ ({ inState 4#4 with flashCnt := 3#2 } : State).flashCnt ≠ 0#2 := by
  decide

theorem witness_FlashOffResult : 1 ≤ ({ inState 5#4 with flashCnt := 1#2 } : State).flashCnt.toNat := by decide

/-- All tested; line `CHSEL_LINE[3]` held; line `CHSEL_LINE[0]` not held. -/
theorem witness_ChselTestResult :
    ({ inState 7#4 with chIdx := 4#3 } : State).chIdx = 4#3 ∧
    (∃ s : State, s.chIdx = BitVec.ofNat 3 (3 : Fin 4) ∧
      s.inputs.keyIn.getLsbD s.cfg.params.chselLine[(3 : Fin 4)] = true) ∧
    (∃ s : State, s.chIdx = BitVec.ofNat 3 (0 : Fin 4) ∧
      s.inputs.keyIn.getLsbD s.cfg.params.chselLine[(0 : Fin 4)] = false) :=
  ⟨by decide, ⟨{ inState 7#4 (keys 0b1000#13) with chIdx := 3#3 }, by decide⟩, ⟨inState 7#4, by decide⟩⟩

theorem witness_ChselRepeatResult : ({ inState 8#4 with chIdx := 6#3 } : State).chIdx.toNat ≤ 6 := by decide

/-- Held, with the octave at its least value and above it, and not held. -/
theorem witness_OctDownResult :
    (∃ s : State, s.inputs.keyIn.getLsbD s.cfg.params.octDownLine = true ∧ s.cfg.params.octMin = s.octave.toNat) ∧
    (∃ s : State, s.inputs.keyIn.getLsbD s.cfg.params.octDownLine = true ∧ s.cfg.params.octMin < s.octave.toNat) ∧
    (∃ s : State, s.inputs.keyIn.getLsbD s.cfg.params.octDownLine = false) :=
  ⟨⟨{ inState 9#4 (keys 0x800#13) with octave := 0#4 }, by decide⟩, ⟨inState 9#4 (keys 0x800#13), by decide⟩,
    ⟨inState 9#4, by decide⟩⟩

/-- Held, with the octave at its greatest value and below it, and not held. -/
theorem witness_OctUpResult :
    (∃ s : State, s.inputs.keyIn.getLsbD s.cfg.params.octUpLine = true ∧ s.cfg.params.octMax = s.octave.toNat) ∧
    (∃ s : State, s.inputs.keyIn.getLsbD s.cfg.params.octUpLine = true ∧ s.octave.toNat < s.cfg.params.octMax) ∧
    (∃ s : State, s.inputs.keyIn.getLsbD s.cfg.params.octUpLine = false) :=
  ⟨⟨{ inState 10#4 (keys 0x1000#13) with octave := 9#4 }, by decide⟩, ⟨inState 10#4 (keys 0x1000#13), by decide⟩,
    ⟨inState 10#4, by decide⟩⟩

/-- A step that keeps the octave in its bounds, and one that changes it. -/
theorem witness_OctaveStaysInBounds :
    (∃ t, step State.reset = .next t ∧ State.reset.octaveInBounds) ∧
    (∃ t, step (inState 9#4 (keys 0x800#13)) = .next t ∧ t.octave ≠ (inState 9#4 (keys 0x800#13)).octave) :=
  ⟨⟨_, rfl, by decide⟩, _, rfl, by decide⟩

/-- A reset cycle, the cycle of OVERLAY_EXIT with the preset at 3, and another cycle. -/
theorem witness_PresetCyclesOnOverlayExitOnly :
    (∃ t, step (inState 6#4 { idleInputs with rst := true }) = .next t) ∧
    (∃ t, step { inState 6#4 with preset := 3#2 } = .next t ∧ t.preset = 0#2) ∧ (∃ t, step State.reset = .next t) :=
  ⟨⟨_, rfl⟩, ⟨_, rfl, by decide⟩, _, rfl⟩

/-- The overlay, and the settle wait. -/
theorem witness_OverlayExcludesNoteScanning :
    (overlayTop.legal ∧ overlayTop.inOverlay ∧ overlayTop.inputs.rst = false ∧ ∃ t, step overlayTop = .next t) ∧
    (settling.legal ∧ settling.inSettle ∧ settling.inputs.rst = false ∧ ∃ t, step settling = .next t) :=
  ⟨⟨legal_overlayTop, by decide, by decide, _, rfl⟩, legal_settling, by decide, by decide, _, rfl⟩

/-- Preset 0, and preset 3 with delays of no tick. -/
theorem witness_FlashPhaseShowsPresetFlashes :
    (∃ (s : State) (period : Nat), period = s.cfg.params.flashOnMs + s.cfg.params.flashOffMs + 4 ∧
      s.st = 0#4 ∧ s.inputs.btnIn = true ∧ s.led = false ∧ s.preset = 0#2 ∧
      s.givenFor (2 + s.preset.toNat * period) (fun i => i.rst = false ∧ i.tickMs = true)) ∧
    (∃ (s : State) (period : Nat), period = s.cfg.params.flashOnMs + s.cfg.params.flashOffMs + 4 ∧
      s.st = 0#4 ∧ s.inputs.btnIn = true ∧ s.led = false ∧ s.preset = 3#2 ∧
      s.givenFor (2 + s.preset.toNat * period) (fun i => i.rst = false ∧ i.tickMs = true)) :=
  ⟨⟨{ inState 0#4 button with stim := [button] }, 304, by decide⟩,
    ⟨{ inState 0#4 button with
        preset := 3#2, stim := readyCycles 13
        cfg := ⟨{ Params.default with flashOnMs := 0, flashOffMs := 0 }, by decide⟩ }, 4, by decide⟩⟩

theorem witness_WaitTickResult :
    (inState 3#4).waitCnt = 0#16 ∧
    (∃ s : State, s.waitCnt = 65535#16 ∧ s.waitCnt ≠ 0#16 ∧ s.inputs.tickMs = true) ∧
    (∃ s : State, s.waitCnt = 1#16 ∧ s.waitCnt ≠ 0#16 ∧ s.inputs.tickMs = false) :=
  ⟨by decide, ⟨{ inState 3#4 with waitCnt := 65535#16 }, by decide⟩, ⟨{ inState 3#4 (tick false) with waitCnt := 1#16 }, by decide⟩⟩

theorem witness_WaitLastsOneCycleMoreThanItsTicks :
    (∃ s : State, s.st = 3#4 ∧ s.waitCnt = 0#16 ∧ s.givenFor (s.waitCnt.toNat + 1) (fun i => i.rst = false ∧ i.tickMs = true)) ∧
    (∃ s : State, s.st = 3#4 ∧ s.waitCnt = 2#16 ∧
      s.givenFor (s.waitCnt.toNat + 1) (fun i => i.rst = false ∧ i.tickMs = true)) :=
  ⟨⟨inState 3#4, by decide⟩, ⟨{ inState 3#4 with waitCnt := 2#16, stim := readyCycles 2 }, by decide⟩⟩

theorem witness_WaitWithoutTicksHolds :
    ∃ s : State, s.st = 3#4 ∧ s.waitCnt ≠ 0#16 ∧ s.givenFor 3 (fun i => i.rst = false ∧ i.tickMs = false) :=
  ⟨{ inState 3#4 (tick false) with waitCnt := 1#16, stim := [tick false, tick false] }, by decide⟩

/-- Each unstated value is met. -/
theorem witness_UnstatedValuesStayFreeAndRunOn :
    (inState 5#4).flashCnt = 0#2 ∧ ({ inState 8#4 with chIdx := 7#3 } : State).chIdx = 7#3 ∧
    5 ≤ ({ inState 7#4 with chIdx := 5#3 } : State).chIdx.toNat ∧
    5 ≤ ({ inState 7#4 with chIdx := 7#3 } : State).chIdx.toNat ∧
    (({ sending [ready true] with txIdx := 3#2 } : State).txIdx = 3#2 ∧ (sending [ready true]).inputs.txReady = true) := by decide

theorem witness_RegistersAreWrittenByTheirRulesOnly : (∃ t, step State.reset = .next t) ∧ State.reset.inputs.rst = false :=
  ⟨⟨_, rfl⟩, by decide⟩

theorem witness_ReuseIsNeverReported : State.reset.legal ∧ ∃ t, step State.reset = .next t := ⟨legal_reset, _, rfl⟩

theorem witness_StepKeepsLegalStates : overlayTop.legal ∧ ∃ t, step overlayTop = .next t := ⟨legal_overlayTop, _, rfl⟩

/-! ### Infinite runs -/

/-- The run from a state in which the environment drives the same inputs in every cycle. -/
def heldRun (i : Inputs) (s : State) : Nat → State
  | 0 => s.drive i
  | n + 1 =>
    match step (heldRun i s n) with
    | .next t => t.drive i
    | .fault _ => heldRun i s n
    | .refused _ => heldRun i s n

theorem heldRun_inputs (i : Inputs) (s : State) (n : Nat) : (heldRun i s n).inputs = i := by
  induction n with
  | zero => rfl
  | succ n ih =>
    simp only [heldRun]
    split
    · rfl
    · exact ih
    · exact ih

theorem heldRun_isRun (i : Inputs) (s : State) : IsRun (heldRun i s) := by
  intro n
  have same (u : State) (i : Inputs) : u.sameRegisters (u.drive i) := rfl
  cases h : step (heldRun i s n) with
  | next t =>
    have e : heldRun i s (n + 1) = t.drive i := by simp only [heldRun, h]
    exact ⟨by rw [e, ← step_cfg h]; rfl, by rw [e]; exact same t i⟩
  | fault r =>
    have e : heldRun i s (n + 1) = heldRun i s n := by simp only [heldRun, h]
    exact ⟨by rw [e], by rw [e]; rfl⟩
  | refused r =>
    have e : heldRun i s (n + 1) = heldRun i s n := by simp only [heldRun, h]
    exact ⟨by rw [e], by rw [e]; rfl⟩

theorem idleRun_fair (s : State) : NoReset (heldRun idleInputs s) ∧ Fair (heldRun idleInputs s) :=
  ⟨fun n => by rw [heldRun_inputs]; rfl, fun n => ⟨n, le_refl n, by rw [heldRun_inputs]; rfl⟩,
    fun n => ⟨n, le_refl n, .inr (by rw [heldRun_inputs]; rfl)⟩⟩

/-- T3: a transmitter that is never ready. -/
theorem heldRun_stalls (s : State) (hs : s.st = sTx) (n : Nat) : (heldRun (ready false) s n).st = sTx := by
  induction n with
  | zero => exact hs
  | succ n ih =>
    have hi := heldRun_inputs (ready false) s n
    have hf : fetch (heldRun (ready false) s n) = .ok .txByte := by simp [fetch, State.selector, ih, decode, decodeState]
    rcases (heldRun (ready false) s n).execTxByte_cases with ⟨-, e⟩ | ⟨hr, -⟩ | ⟨hr, -⟩
    · have h := step_of_fetch (by rw [hi]; rfl) hf
      rw [e] at h
      simp only [heldRun, h, onNext]
      rcases (heldRun (ready false) s n).quiet.nextCycle_cases with ⟨_, _, -, e⟩ | ⟨-, e⟩ <;> rw [e] <;> exact ih
    · rw [hi] at hr; cases hr
    · rw [hi] at hr; cases hr

theorem witness_FairRunsEndTheirMessages :
    ∃ r, IsRun r ∧ NoReset r ∧ FairReady r ∧ (r 0).st = 2#4 ∧ (r 0).txIdx.toNat < (r 0).msgLen.toNat :=
  ⟨heldRun idleInputs (sending [ready true]), heldRun_isRun _ _, (idleRun_fair _).1, (idleRun_fair _).2.2, by decide, by decide⟩

theorem witness_FairRunsEndTheirWaits : ∃ r, IsRun r ∧ NoReset r ∧ FairTick r ∧ (r 0).st = 3#4 :=
  ⟨heldRun idleInputs settling, heldRun_isRun _ _, (idleRun_fair _).1, (idleRun_fair _).2.1, by decide⟩

theorem witness_LaunchedRunsNeverFault : ∃ r, IsRun r ∧ LaunchReset r := ⟨heldRun idleInputs State.reset, heldRun_isRun _ _, rfl⟩

/-! ### The end of a run -/

/-- A hung run, and a bench of each ending: K3's poll from a fault state, a `RUN_TO` that does not reach, a run left in `S_FLASH`,
and a machine put into a fault state. -/
theorem witness_RunEndsAreCleanCutOffOrFault :
    (∃ r, IsRun r ∧ Hangs r) ∧ (runScript 5 [.runTo 0#4] (inState 11#4)).ending = .clean ∧
    (runScript 1 [.runTo 0#4] (inState 11#4)).ending = .notClean ∧
    (runScript 5 [.btn true, .run 1] State.reset).ending = .cutOff ∧ (Bench.before (inState 11#4)).ending = .fault :=
  ⟨⟨heldRun (ready false) (sending [ready true]), heldRun_isRun _ _,
      .inl ⟨0, fun m _ => ⟨heldRun_stalls _ rfl m, by rw [heldRun_inputs]; rfl⟩⟩⟩,
    by decide, by decide, by decide, by decide⟩

/-- A failed `EXPECT` leaves the end clean. -/
theorem test_expect_is_no_end_condition :
    ((runScript 5 [.expectReg .octave 4, .runTo 0#4] State.reset).ending, (runScript 5 [.expectReg .octave 4] State.reset).expects) =
      (.clean, false) := by decide

/-! ### Encodings -/

theorem witness_DecodeOfEncodeIsTheOperation :
    (Instr.octUp).wf = true ∧ (Instr.assignRelease 12#4).wf = true ∧ (Instr.encNoteOff 0#4 3#2).wf = true := by decide

theorem witness_DecodedOperationsAreWellFormed : decode (.evt5 0b11100#5) = .ok (.assignPress 12#4) := by decide

/-- A message of each form, with the length its status byte has. -/
theorem witness_ReceiverReadsMessagesBack :
    decodeMessage 2 (encodeMessage (.noteOn 0#2 60#7 100#7) ++ [0xF8#8]) = .ok (.noteOn 0#2 60#7 100#7, [0xF8#8]) ∧
    decodeMessage 3 (encodeMessage (.noteOff 3#2 127#7 0#7)) = .ok (.noteOff 3#2 127#7 0#7, []) ∧
    decodeMessage 2 (encodeMessage (.cc2 1#2 0#2)) = .ok (.cc2 1#2 0#2, []) ∧
    decodeMessage 3 (encodeMessage (.cc3 3#2 0x10#7 3#2)) = .ok (.cc3 3#2 0x10#7 3#2, []) := by decide

end Sys2Proof.Tests
end

section
/-! SUPPORT. SCAN_EDGE run with no pending edge (spec/93_implementation_defined.md I6). -/

namespace Sys2Proof.Machine

/-- The empty edge mask has no lowest edge (R10). -/
theorem lowest_noKeys : lowestIn 13 (0#13).getLsbD = none :=
  lowestIn_eq_none.mpr fun _ _ => BitVec.getLsbD_zero

/-- Where `lowest` answers nothing, SCAN_EDGE stops (I6). -/
theorem execScanEdge_of_lowest_none {s : State} (h : lowestIn 13 s.pend.getLsbD = none) :
    exec .scanEdge s = .fault .lowestOfZero := by
  simp [exec, execScanEdge, h]

/-- Settles O13: `pend = 0` is the mask on which `lowest` answers nothing. -/
theorem scanEdgeWithoutEdgeFaults : Obligations.ScanEdgeWithoutEdgeFaults := by
  intro s hpend
  apply execScanEdge_of_lowest_none
  rw [hpend, lowest_noKeys]

end Sys2Proof.Machine
end

section
/-! SUPPORT. SCAN_EDGE's effect on each register (spec/10_state.md R26 to R36, spec/40_key_scanner.md R103). -/

namespace Sys2Proof.Machine

/-- The state of a SCAN_EDGE cycle once the arbiter has answered and before any message is built (R103): the event's `pend`
bit is cleared, and the call is in the pool and the result registers. -/
def State.afterCall (s : State) (line : Nat) : State :=
  ({ s with pend := s.pend &&& ~~~(1#13 <<< line) } : State).reportCall (BitVec.ofNat 4 line)
    (s.pool.assign (s.cur.getLsbD line) (BitVec.ofNat 4 line))

section
variable (s : State) (line : Nat)

/-- After the call, SCAN_EDGE goes on as it is, or loads a Note message of 3 bytes and leaves for `S_TX` (R103). -/
theorem State.scanEvent_call_or_message :
    s.scanEvent line = s.afterCall line ∨
      ∃ slot, s.scanEvent line =
        (if s.cur.getLsbD line then (s.afterCall line).loadNoteOn (BitVec.ofNat 4 line) slot
          else (s.afterCall line).loadNoteOff (BitVec.ofNat 4 line) slot).startTx sScan := by
  rcases s.scanEvent_cases line with ⟨-, e⟩ | ⟨i, -, -, e⟩
  · exact .inl e
  · exact .inr ⟨BitVec.ofNat 2 i, e⟩

/-- Whichever way it goes, SCAN_EDGE writes no more than the call does, `st`, and the message registers. -/
theorem State.scanEvent_frame :
    let t := s.scanEvent line
    t = { s.afterCall line with
      st := t.st, msgLen := t.msgLen, msgB0 := t.msgB0, msgB1 := t.msgB1, msgB2 := t.msgB2
      txIdx := t.txIdx, txRet := t.txRet } := by
  rcases s.scanEvent_call_or_message line with e | ⟨slot, e⟩ <;> rw [e]
  split <;> rfl

@[simp] theorem State.scanEvent_prev : (s.scanEvent line).prev = s.prev := by rw [scanEvent_frame]; rfl
@[simp] theorem State.scanEvent_cur : (s.scanEvent line).cur = s.cur := by rw [scanEvent_frame]; rfl
@[simp] theorem State.scanEvent_pend : (s.scanEvent line).pend = s.pend &&& ~~~(1#13 <<< line) := by
  rw [scanEvent_frame]; rfl
@[simp] theorem State.scanEvent_octave : (s.scanEvent line).octave = s.octave := by rw [scanEvent_frame]; rfl
@[simp] theorem State.scanEvent_preset : (s.scanEvent line).preset = s.preset := by rw [scanEvent_frame]; rfl
@[simp] theorem State.scanEvent_pool :
    (s.scanEvent line).pool = (s.pool.assign (s.cur.getLsbD line) (BitVec.ofNat 4 line)).pool := by
  rw [scanEvent_frame]; rfl
@[simp] theorem State.scanEvent_waitCnt : (s.scanEvent line).waitCnt = s.waitCnt := by rw [scanEvent_frame]; rfl
@[simp] theorem State.scanEvent_waitRet : (s.scanEvent line).waitRet = s.waitRet := by rw [scanEvent_frame]; rfl
@[simp] theorem State.scanEvent_flashCnt : (s.scanEvent line).flashCnt = s.flashCnt := by rw [scanEvent_frame]; rfl
@[simp] theorem State.scanEvent_chIdx : (s.scanEvent line).chIdx = s.chIdx := by rw [scanEvent_frame]; rfl
@[simp] theorem State.scanEvent_led : (s.scanEvent line).led = s.led := by rw [scanEvent_frame]; rfl
@[simp] theorem State.scanEvent_ovl : (s.scanEvent line).ovl = s.ovl := by rw [scanEvent_frame]; rfl
@[simp] theorem State.scanEvent_resValid : (s.scanEvent line).resValid = true := by rw [scanEvent_frame]; rfl
@[simp] theorem State.scanEvent_resKind :
    (s.scanEvent line).resKind = (s.pool.assign (s.cur.getLsbD line) (BitVec.ofNat 4 line)).kind.code := by
  rw [scanEvent_frame]; rfl
@[simp] theorem State.scanEvent_resLine : (s.scanEvent line).resLine = BitVec.ofNat 4 line := by
  rw [scanEvent_frame]; rfl
@[simp] theorem State.scanEvent_cfg : (s.scanEvent line).cfg = s.cfg := by rw [scanEvent_frame]; rfl

/-- Where SCAN_EDGE leaves the sequencer and the message registers (R103): as they were, or at the first byte of a message
that returns to the scan. -/
theorem State.scanEvent_seq (hst : s.st = sScan) :
    ((s.scanEvent line).st = sScan ∧ (s.scanEvent line).msgLen = s.msgLen ∧ (s.scanEvent line).txIdx = s.txIdx ∧
      (s.scanEvent line).txRet = s.txRet) ∨
    ((s.scanEvent line).st = sTx ∧ (s.scanEvent line).msgLen = 3#2 ∧ (s.scanEvent line).txIdx = 0#2 ∧
      (s.scanEvent line).txRet = sScan) := by
  rcases s.scanEvent_call_or_message line with e | ⟨slot, e⟩ <;> rw [e]
  · exact .inl ⟨hst, rfl, rfl, rfl⟩
  · refine .inr ⟨rfl, ?_, rfl, rfl⟩
    split <;> rfl

end
end Sys2Proof.Machine
end

section
/-! SUPPORT. Which cycles write each register (spec/10_state.md R26 to R36): one lemma for each register, whose named cases
are the transitions that write it. -/

namespace Sys2Proof.Machine

/-- The sequencer's codes (R24), for telling two of them apart. -/
theorem seqCode_values :
    sIdle = 0#4 ∧ sScan = 1#4 ∧ sTx = 2#4 ∧ sWait = 3#4 ∧ sFlash = 4#4 ∧ sFlashGap = 5#4 ∧ sOvlTop = 6#4 ∧ sOvlCh = 7#4 ∧
      sOvlChw = 8#4 ∧ sOvlOctdn = 9#4 ∧ sOvlOctup = 10#4 := by
  decide

variable {s u : State}

theorem State.Effect.of_prev_ne (h : s.Effect u) (w : u.prev ≠ s.prev) : s.st = sScan ∧ s.pend = 0#13 := by
  cases h
  case scanEnd st pend => exact ⟨st, pend⟩
  all_goals exact absurd (by simp) w

theorem State.Effect.of_cur_ne (h : s.Effect u) (w : u.cur ≠ s.cur) : s.st = sIdle ∧ s.inputs.btnIn = false := by
  cases h
  case pollSample st btn => exact ⟨st, btn⟩
  all_goals exact absurd (by simp) w

theorem State.Effect.of_pend_ne (h : s.Effect u) (w : u.pend ≠ s.pend) :
    (s.st = sIdle ∧ s.inputs.btnIn = false) ∨ (s.st = sScan ∧ s.pend ≠ 0#13) := by
  cases h
  case pollSample st btn => exact .inl ⟨st, btn⟩
  case scanEdge line st pend low => exact .inr ⟨st, pend⟩
  all_goals exact absurd (by simp) w

theorem State.Effect.of_octave_ne (h : s.Effect u) (w : u.octave ≠ s.octave) : s.st = sOvlOctdn ∨ s.st = sOvlOctup := by
  cases h
  case octDownStep st key room => exact .inl st
  case octUpStep st key room => exact .inr st
  all_goals exact absurd (by simp) w

theorem State.Effect.of_preset_ne (h : s.Effect u) (w : u.preset ≠ s.preset) :
    s.st = sOvlTop ∧ s.inputs.btnIn = false := by
  cases h
  case overlayExit st btn => exact ⟨st, btn⟩
  all_goals exact absurd (by simp) w

theorem State.Effect.of_pool_ne (h : s.Effect u) (w : u.pool ≠ s.pool) : s.st = sScan ∧ s.pend ≠ 0#13 := by
  cases h
  case scanEdge line st pend low => exact ⟨st, pend⟩
  all_goals exact absurd (by simp) w

/-- The message registers as one value (R32). -/
theorem State.Effect.of_buffer_ne (h : s.Effect u)
    (w : (u.msgLen, u.msgB0, u.msgB1, u.msgB2) ≠ (s.msgLen, s.msgB0, s.msgB1, s.msgB2)) :
    (s.st = sScan ∧ s.pend ≠ 0#13) ∨ s.st = sOvlCh := by
  cases h
  case scanEdge line st pend low => exact .inl ⟨st, pend⟩
  case chselHeld st idx level => exact .inr st
  all_goals exact absurd (by simp) w

theorem State.Effect.of_txIdx_ne (h : s.Effect u) (w : u.txIdx ≠ s.txIdx) :
    (s.st = sTx ∧ s.inputs.txReady = true) ∨ (s.st = sScan ∧ s.pend ≠ 0#13) ∨ s.st = sOvlCh := by
  cases h
  case txEnd st ready last => exact .inl ⟨st, ready⟩
  case txNext st ready last => exact .inl ⟨st, ready⟩
  case scanEdge line st pend low => exact .inr (.inl ⟨st, pend⟩)
  case chselHeld st idx level => exact .inr (.inr st)
  all_goals exact absurd (by simp) w

theorem State.Effect.of_txRet_ne (h : s.Effect u) (w : u.txRet ≠ s.txRet) :
    (s.st = sScan ∧ s.pend ≠ 0#13) ∨ s.st = sOvlCh := by
  cases h
  case scanEdge line st pend low => exact .inl ⟨st, pend⟩
  case chselHeld st idx level => exact .inr st
  all_goals exact absurd (by simp) w

/-- `wait_ret` is written by the cycles that start a wait, and so is `wait_cnt` but for its count in `S_WAIT` (R34). -/
theorem State.Effect.of_wait_ne (h : s.Effect u) (w : u.waitCnt ≠ s.waitCnt ∨ u.waitRet ≠ s.waitRet) :
    (s.st = sWait ∧ s.waitCnt ≠ 0#16 ∧ s.inputs.tickMs = true ∧ u.waitRet = s.waitRet) ∨ s.loadsWait := by
  cases h
  case waitTick st cnt tick => exact .inl ⟨st, cnt, tick, rfl⟩
  case flashOn st cnt => exact .inr (.inl ⟨st, cnt⟩)
  case flashOff st => exact .inr (.inr (.inl st))
  case overlayExit st btn => exact .inr (.inr (.inr (.inl ⟨st, btn⟩)))
  case chselRepeat st => exact .inr (.inr (.inr (.inr (.inl st))))
  case octDownStep st key room => exact .inr (.inr (.inr (.inr (.inr (.inl ⟨st, key⟩)))))
  case octDownClamped st key room => exact .inr (.inr (.inr (.inr (.inr (.inl ⟨st, key⟩)))))
  case octUpStep st key room => exact .inr (.inr (.inr (.inr (.inr (.inr ⟨st, key⟩)))))
  case octUpClamped st key room => exact .inr (.inr (.inr (.inr (.inr (.inr ⟨st, key⟩)))))
  all_goals exact absurd w (by simp)

theorem State.Effect.of_waitCnt_ne (h : s.Effect u) (w : u.waitCnt ≠ s.waitCnt) :
    (s.st = sWait ∧ s.waitCnt ≠ 0#16 ∧ s.inputs.tickMs = true) ∨ s.loadsWait :=
  (h.of_wait_ne (.inl w)).imp_left fun ⟨st, cnt, tick, _⟩ => ⟨st, cnt, tick⟩

theorem State.Effect.of_waitRet_ne (h : s.Effect u) (w : u.waitRet ≠ s.waitRet) : s.loadsWait :=
  (h.of_wait_ne (.inr w)).resolve_left fun ⟨_, _, _, e⟩ => w e

theorem State.Effect.of_flashCnt_ne (h : s.Effect u) (w : u.flashCnt ≠ s.flashCnt) :
    (s.st = sIdle ∧ s.inputs.btnIn = true) ∨ s.st = sFlashGap := by
  cases h
  case overlayEnter st btn => exact .inl ⟨st, btn⟩
  case flashOff st => exact .inr st
  all_goals exact absurd (by simp) w

theorem State.Effect.of_chIdx_ne (h : s.Effect u) (w : u.chIdx ≠ s.chIdx) :
    (s.st = sOvlTop ∧ s.inputs.btnIn = true) ∨ s.st = sOvlCh ∨ s.st = sOvlChw := by
  cases h
  case overlayLoop st btn => exact .inl ⟨st, btn⟩
  case chselNext st idx level => exact .inr (.inl st)
  case chselRepeat st => exact .inr (.inr st)
  all_goals exact absurd (by simp) w

theorem State.Effect.of_led_ne (h : s.Effect u) (w : u.led ≠ s.led) : s.st = sFlash ∨ s.st = sFlashGap := by
  cases h
  case flashOn st cnt => exact .inl st
  case flashOff st => exact .inr st
  all_goals exact absurd (by simp) w

theorem State.Effect.of_ovl_ne (h : s.Effect u) (w : u.ovl ≠ s.ovl) :
    (s.st = sIdle ∧ s.inputs.btnIn = true) ∨ (s.st = sOvlTop ∧ s.inputs.btnIn = false) := by
  cases h
  case overlayEnter st btn => exact .inl ⟨st, btn⟩
  case overlayExit st btn => exact .inr ⟨st, btn⟩
  all_goals exact absurd (by simp) w

/-- R33: the cycles with a report are exactly SCAN_EDGE's. -/
theorem State.Effect.resValid_iff (h : s.Effect u) : u.resValid = true ↔ s.st = sScan ∧ s.pend ≠ 0#13 := by
  cases h
  case scanEdge line st pend low => simp [st, pend]
  case scanEnd st pend => simp [pend]
  all_goals simp_all [seqCode_values]

theorem State.Effect.of_report_ne (h : s.Effect u)
    (w : (u.resKind, u.resLine, u.resSlot) ≠ (s.resKind, s.resLine, s.resSlot)) : s.st = sScan ∧ s.pend ≠ 0#13 := by
  cases h
  case scanEdge line st pend low => exact ⟨st, pend⟩
  all_goals exact absurd (by simp) w

/-- Settles O48, register by register: the pins that move on after the effect write no register. -/
theorem registersAreWrittenByTheirRulesOnly : Obligations.RegistersAreWrittenByTheirRulesOnly := by
  intro s t h
  refine ⟨step_cfg h, fun hr => ?_⟩
  rcases step_effect h with ⟨hr', -⟩ | ⟨-, u, hu, rfl⟩
  · exact absurd hr' (by simp [hr])
  simp only [State.nextCycle_prev, State.nextCycle_cur, State.nextCycle_pend, State.nextCycle_octave,
    State.nextCycle_preset, State.nextCycle_pool, State.nextCycle_msgLen, State.nextCycle_msgB0, State.nextCycle_msgB1,
    State.nextCycle_msgB2, State.nextCycle_txIdx, State.nextCycle_txRet, State.nextCycle_waitCnt, State.nextCycle_waitRet,
    State.nextCycle_flashCnt, State.nextCycle_chIdx, State.nextCycle_led, State.nextCycle_ovl, State.nextCycle_resValid,
    State.nextCycle_resKind, State.nextCycle_resLine, State.nextCycle_resSlot]
  exact ⟨hu.of_prev_ne, hu.of_cur_ne, hu.of_pend_ne, hu.of_octave_ne, hu.of_preset_ne, hu.of_pool_ne, hu.of_buffer_ne,
    hu.of_txIdx_ne, hu.of_txRet_ne, hu.of_waitCnt_ne, hu.of_waitRet_ne, hu.of_flashCnt_ne, hu.of_chIdx_ne, hu.of_led_ne,
    hu.of_ovl_ne, hu.resValid_iff, hu.of_report_ne⟩

end Sys2Proof.Machine
end

section
/-! SUPPORT. The tier 1 facts of the cycle, the pins, the outputs and the reset state (spec/10_state.md R22, R38 to R40). -/

namespace Sys2Proof.Machine

/-- Settles O1: `fetch` decodes the selector of the statement, and `onNext` is the statement's match. -/
theorem stepRunsSelectedOperation : Obligations.StepRunsSelectedOperation := by
  intro s i hr hi
  rw [step_of_fetch hr hi]
  cases exec i s <;> rfl

/-- Settles O2, from the two ways a cycle can end. -/
theorem pinsTakeGivenInputsThenFreeOnes : Obligations.PinsTakeGivenInputsThenFreeOnes := by
  intro s
  rcases s.nextCycle_cases with ⟨i, rest, hs, e⟩ | ⟨hs, e⟩
  · refine ⟨fun i' rest' hs' => ?_, fun hs' => ?_⟩
    · obtain ⟨rfl, rfl⟩ := List.cons.inj (hs.symm.trans hs')
      exact e
    · cases hs.symm.trans hs'
  · refine ⟨fun i' rest' hs' => ?_, fun _ => e⟩
    cases hs.symm.trans hs'

/-- Settles O5: every register of the reset table, and the slots by their index. -/
theorem resetStateIsTheResetTable : Obligations.ResetStateIsTheResetTable := by
  have hpool : ∀ i < 4, State.reset.pool.get i = ⟨false, 0#4⟩ := by decide
  exact ⟨rfl, rfl, rfl, rfl, rfl, rfl, hpool, rfl, rfl, rfl, rfl, rfl, rfl, rfl, rfl, rfl, rfl, rfl, rfl, rfl, rfl, rfl, rfl⟩

/-- The byte at `tx_idx`, for the three bytes the buffer has (R38). -/
theorem State.currentByte_cases (s : State) :
    (s.txIdx = 0#2 → s.currentByte = s.msgB0) ∧ (s.txIdx = 1#2 → s.currentByte = s.msgB1) ∧
      (s.txIdx = 2#2 → s.currentByte = s.msgB2) := by
  refine ⟨fun h => ?_, fun h => ?_, fun h => ?_⟩ <;> simp [State.currentByte, h]

/-- `tx_idx = msg_len - 1` where the message has a length (R38; log 18). -/
theorem State.atLastByte_iff {s : State} (h : s.msgLen ≠ 0#2) :
    s.atLastByte = true ↔ s.txIdx.toNat = s.msgLen.toNat - 1 := by
  have hpos : s.msgLen.toNat ≠ 0 := fun e => h (BitVec.eq_of_toNat_eq e)
  simp only [State.atLastByte, beq_iff_eq]
  omega

/-- Settles O8: inside `S_TX` the byte and the last flag are read from the buffer, outside it they are 0, and no output reads
the pins. -/
theorem outputsAreMooreFunctions : Obligations.OutputsAreMooreFunctions := by
  intro s
  refine ⟨by simp [State.outputs, sTx], fun hst => ?outside, fun hst => ?inside, rfl, rfl, rfl, rfl, rfl, rfl, fun i => rfl⟩
  case outside => simp [State.outputs, sTx, hst]
  case inside =>
    have hdata : s.outputs.txData = s.currentByte := if_pos hst
    have hlast : s.outputs.txLast = s.atLastByte := by simp [State.outputs, sTx, hst]
    obtain ⟨h0, h1, h2⟩ := s.currentByte_cases
    rw [hdata, hlast]
    exact ⟨h0, h1, h2, State.atLastByte_iff⟩

end Sys2Proof.Machine
end

section
/-! SUPPORT. The sequencer's codes under every effect, and the reserved ones (spec/10_state.md R24, R25). -/

namespace Sys2Proof.Machine

variable {s u : State}

/-- The codes that `tx_ret` and `wait_ret` hold are states the rules use (R24, R32, R34). -/
theorem State.seqLegal.returns_le (l : s.seqLegal) : s.txRet.toNat ≤ 10 ∧ s.waitRet.toNat ≤ 10 := by
  obtain ⟨-, htx, hwait⟩ := l
  simp only [List.mem_cons, List.not_mem_nil, or_false] at htx hwait
  constructor
  · rcases htx with e | e | e <;> rw [e] <;> decide
  · rcases hwait with e | e | e | e | e | e <;> rw [e] <;> decide

/-- The sequencer registers stay legal: `st` is set to a state's code or to a legal return code, and each return register to
one of its callers' codes. -/
theorem State.Effect.seqLegal (h : s.Effect u) (l : s.seqLegal) : u.seqLegal := by
  obtain ⟨htxRet, hwaitRet⟩ := State.seqLegal.returns_le l
  obtain ⟨hst, htx, hwait⟩ := l
  cases h
  case scanEdge line st pend low =>
    rcases s.scanEvent_seq line st with ⟨est, -, -, eret⟩ | ⟨est, -, -, eret⟩ <;>
      simp_all [State.seqLegal]
  case txEnd st ready last => exact ⟨htxRet, htx, hwait⟩
  case waitEnd st cnt => exact ⟨hwaitRet, htx, hwait⟩
  all_goals simp_all [State.seqLegal]

/-- Settles O6: a reserved code fetches nothing, reset writes 0, and every effect keeps the sequencer registers legal. -/
theorem reservedSequencerCodesFaultAndAreNeverWritten :
    Obligations.ReservedSequencerCodesFaultAndAreNeverWritten := by
  refine ⟨fun s hr hst => ?fault, fun s hr => ?reset, fun s t l h => ?never⟩
  case fault => simp [step, hr, fetch_error hst]
  case reset => exact ⟨_, step_of_rst hr, by simp⟩
  case never =>
    rcases step_effect h with ⟨-, rfl⟩ | ⟨-, u, hu, rfl⟩
    · simp
    · rw [State.nextCycle_st]
      exact (hu.seqLegal l).1

end Sys2Proof.Machine
end

section
/-! SUPPORT. The voice pool under an arbiter call (spec/41_voice_arbiter.md R121 to R123). -/

namespace Sys2Proof.Machine

/-- Writing slot `i` keeps the pool legal if the new slot is canonical, and no other slot is owned by its key. -/
theorem Pool.set_legal {p : Pool} {i : Nat} {x : Slot} (h : p.legal) (hi : i < 4)
    (canonical : if x.v then x.k.toNat ≤ 12 else x.k = 0#4)
    (fresh : x.v = true → ∀ j < 4, (p.get j).v = true → (p.get j).k = x.k → j = i) : (p.set i x).legal := by
  obtain ⟨hcan, hinj⟩ := h
  constructor
  · intro j hj
    rw [Pool.get_set p x hi hj]
    split
    · exact canonical
    · exact hcan j hj
  · intro j hj k hk hne
    rw [Pool.get_set p x hi hj, Pool.get_set p x hi hk]
    split <;> split
    · omega
    · exact fun hx hv e => ‹¬k = i› (fresh hx k hk hv e.symm)
    · exact fun hv hx e => ‹¬j = i› (fresh hx j hj hv e)
    · exact hinj j hj k hk hne

theorem Pool.empty_legal : Pool.empty.legal := by
  have hfree : ∀ i < 4, Pool.empty.get i = Slot.freeSlot := by decide
  constructor
  · intro i hi
    simp [hfree i hi, Slot.freeSlot]
  · intro i hi j hj _ hv
    simp [hfree i hi, Slot.freeSlot] at hv

/-- R31, R123: an arbiter call for a key line keeps the pool legal. -/
theorem Pool.assign_legal {p : Pool} (h : p.legal) (pressed : Bool) {key : Line} (hkey : key.toNat ≤ 12) :
    (p.assign pressed key).pool.legal := by
  unfold Pool.assign
  split
  · rcases p.press_cases key with ⟨i, -, -, e⟩ | ⟨hmiss, i, hi, -, -, e⟩ | ⟨-, -, e⟩ <;> rw [e]
    · exact h
    · refine Pool.set_legal h hi (by simpa using hkey) fun _ j hj hv hk => ?_
      have hit := (p.hit_iff key j).mpr ⟨hv, hk⟩
      simp [hmiss j hj] at hit
    · exact h
  · rcases p.release_cases key with ⟨i, hi, -, -, e⟩ | ⟨-, e⟩ <;> rw [e]
    · exact Pool.set_legal h hi (by simp [Slot.freeSlot]) (by simp [Slot.freeSlot])
    · exact h

/-- After a call each owner is the key just pressed, or another key that owned the same slot before: a released key owns no
slot, since it owned at most one (R123). -/
theorem Pool.assign_owner {p : Pool} (h : p.injective) (pressed : Bool) (key : Line) {j : Nat} (hj : j < 4)
    (hv : ((p.assign pressed key).pool.get j).v = true) :
    (pressed = true ∧ ((p.assign pressed key).pool.get j).k = key) ∨
      ((p.get j).k ≠ key ∧ (p.assign pressed key).pool.get j = p.get j) := by
  have unhit : ∀ {j}, p.hit key j = false → (p.get j).v = true → (p.get j).k ≠ key := by
    intro j hmiss hv hk
    simp [(p.hit_iff key j).mpr ⟨hv, hk⟩] at hmiss
  cases pressed with
  | true =>
    simp only [Pool.assign, if_true] at hv ⊢
    rcases p.press_cases key with ⟨i, -, -, e⟩ | ⟨hmiss, i, hi, -, -, e⟩ | ⟨hmiss, -, e⟩ <;> simp only [e] at hv ⊢
    · by_cases hk : (p.get j).k = key
      · exact .inl ⟨trivial, hk⟩
      · exact .inr ⟨hk, trivial⟩
    · rw [Pool.get_set p _ hi hj] at hv ⊢
      split at hv
      · exact .inl (by simp [*])
      · exact .inr (by simp [*, unhit (hmiss j hj) hv])
    · exact .inr ⟨unhit (hmiss j hj) hv, trivial⟩
  | false =>
    simp only [Pool.assign, Bool.false_eq_true, if_false] at hv ⊢
    right
    rcases p.release_cases key with ⟨i, hi, hhit, -, e⟩ | ⟨hmiss, e⟩ <;> simp only [e] at hv ⊢
    · rw [Pool.get_set p _ hi hj] at hv ⊢
      split at hv
      · simp [Slot.freeSlot] at hv
      · rename_i hne
        obtain ⟨hiv, hik⟩ := (p.hit_iff key i).mp hhit
        rw [if_neg hne]
        exact ⟨fun hk => h j hj i hi hne hv hiv (hk.trans hik.symm), rfl⟩
    · exact ⟨unhit (hmiss j hj) hv, trivial⟩

/-- REUSE answers only a press of a key that owns a slot (R121). -/
theorem Pool.assign_reuse {p : Pool} {pressed : Bool} {key : Line} (h : (p.assign pressed key).kind = .reuse) :
    pressed = true ∧ ∃ i < 4, p.hit key i = true := by
  unfold Pool.assign at h
  split at h
  · rcases p.press_cases key with ⟨i, hi, hhit, -⟩ | ⟨-, i, -, -, -, e⟩ | ⟨-, -, e⟩
    · exact ⟨‹_›, i, hi, hhit⟩
    · simp [e] at h
    · simp [e] at h
  · rcases p.release_cases key with ⟨i, -, -, -, e⟩ | ⟨-, e⟩ <;> simp [e] at h

theorem ResKind.code_le (k : ResKind) : k.code.toNat ≤ 4 := by
  cases k <;> decide

theorem ResKind.code_eq_reuse {k : ResKind} : k.code = ResKind.reuse.code ↔ k = .reuse := by
  cases k <;> decide

end Sys2Proof.Machine
end

section
/-! SUPPORT. What the encoder loads reads as one whole message (spec/30_encoding.md R82 to R87). -/

namespace Sys2Proof

/-- A byte at most 127 is a data byte (R82). -/
theorem dataByte_of_le {b : Byte} (h : b.toNat ≤ 127) : dataByte b = .ok (b.setWidth 7) := by
  have : b.getLsbD 7 = false := Nat.testBit_lt_two_pow (by omega)
  simp only [dataByte, this, Bool.false_eq_true, if_false]

/-- A preset's byte is read back as the preset (R86). -/
theorem presetByte_setWidth (p : BitVec 2) : presetByte (p.setWidth 8) = .ok p := by
  revert p; decide

/-- A Note On's status byte with two data bytes is one message, whatever `CC_LEN` (R84, R87). -/
theorem decodeMessage_noteOn (ccLen : Nat) (slot : SlotIx) {b1 b2 : Byte} (h1 : b1.toNat ≤ 127) (h2 : b2.toNat ≤ 127) :
    decodeMessage ccLen [0x90#8 ||| slot.setWidth 8, b1, b2] = .ok (.noteOn slot (b1.setWidth 7) (b2.setWidth 7), []) := by
  have hchan : statusChannel (0x90#8 ||| slot.setWidth 8) = some slot := by revert slot; decide
  have hkind : statusMatches (0x90#8 ||| slot.setWidth 8) 0x90#8 = true := by revert slot; decide
  simp [decodeMessage, messageLength, decodeFields, hchan, hkind, dataByte_of_le h1, dataByte_of_le h2, bind, Except.bind,
    pure, Except.pure]

/-- A Note Off's status byte with two data bytes is one message, whatever `CC_LEN` (R85, R87). -/
theorem decodeMessage_noteOff (ccLen : Nat) (slot : SlotIx) {b1 b2 : Byte} (h1 : b1.toNat ≤ 127) (h2 : b2.toNat ≤ 127) :
    decodeMessage ccLen [0x80#8 ||| slot.setWidth 8, b1, b2] =
      .ok (.noteOff slot (b1.setWidth 7) (b2.setWidth 7), []) := by
  have hchan : statusChannel (0x80#8 ||| slot.setWidth 8) = some slot := by revert slot; decide
  have hkind : statusMatches (0x80#8 ||| slot.setWidth 8) 0x80#8 = true ∧
      statusMatches (0x80#8 ||| slot.setWidth 8) 0x90#8 = false := by revert slot; decide
  simp [decodeMessage, messageLength, decodeFields, hchan, hkind, dataByte_of_le h1, dataByte_of_le h2, bind, Except.bind,
    pure, Except.pure]

/-- The status byte of a Control-Change of channel `c` in 0..3 (R83, R86). -/
theorem controlStatus (c : BitVec 3) (h : c.toNat ≤ 3) :
    statusChannel (0xB0#8 ||| c.setWidth 8) = some (c.setWidth 2) ∧ statusMatches (0xB0#8 ||| c.setWidth 8) 0xB0#8 = true ∧
      statusMatches (0xB0#8 ||| c.setWidth 8) 0x80#8 = false ∧ statusMatches (0xB0#8 ||| c.setWidth 8) 0x90#8 = false := by
  revert c; decide

/-- A Control-Change of length 2 is one message for `CC_LEN = 2` (R86, R87). -/
theorem decodeMessage_cc2 {c : BitVec 3} (h : c.toNat ≤ 3) (preset : BitVec 2) :
    decodeMessage 2 [0xB0#8 ||| c.setWidth 8, preset.setWidth 8] = .ok (.cc2 (c.setWidth 2) preset, []) := by
  obtain ⟨hchan, hcc, hoff, hon⟩ := controlStatus c h
  simp [decodeMessage, messageLength, decodeFields, hchan, hcc, hoff, hon, presetByte_setWidth, bind, Except.bind,
    pure, Except.pure]

/-- A Control-Change of length 3 is one message for `CC_LEN = 3` (R86, R87). -/
theorem decodeMessage_cc3 {c : BitVec 3} (h : c.toNat ≤ 3) {ctrl : Byte} (hctrl : ctrl.toNat ≤ 127) (preset : BitVec 2) :
    decodeMessage 3 [0xB0#8 ||| c.setWidth 8, ctrl, preset.setWidth 8] =
      .ok (.cc3 (c.setWidth 2) (ctrl.setWidth 7) preset, []) := by
  obtain ⟨hchan, hcc, hoff, hon⟩ := controlStatus c h
  simp [decodeMessage, messageLength, decodeFields, hchan, hcc, hoff, hon, dataByte_of_le hctrl, presetByte_setWidth,
    bind, Except.bind, pure, Except.pure]

namespace Machine

/-- The buffer reads as one whole message, with nothing after it (R82, R90). -/
def State.ReadsWhole (s : State) : Prop := ∃ m, decodeMessage s.cfg.params.ccLen s.message = .ok (m, [])

theorem State.ReadsWhole.bufferLegal {s : State} (h : s.ReadsWhole) : s.bufferLegal := by
  obtain ⟨m, e⟩ := h
  intro _
  rw [e]
  rfl

/-- R84, R142, R143: a Note On built for a key line with the octave in bounds is one whole message. -/
theorem State.loadNoteOn_reads {s : State} (ho : s.octaveInBounds) {line : Line} (h : line.toNat ≤ 12) (slot : SlotIx) :
    (s.loadNoteOn line slot).ReadsWhole :=
  have ⟨_, hmax⟩ := ho
  have ⟨_, hnote⟩ := noteByte_toNat s.cfg h hmax
  have ⟨_, hvel⟩ := velocityByte_toNat s.cfg h
  ⟨_, decodeMessage_noteOn _ slot hnote hvel⟩

/-- R85, R142, R143: so is a Note Off. -/
theorem State.loadNoteOff_reads {s : State} (ho : s.octaveInBounds) {line : Line} (h : line.toNat ≤ 12) (slot : SlotIx) :
    (s.loadNoteOff line slot).ReadsWhole :=
  have ⟨_, hmax⟩ := ho
  have ⟨_, hnote⟩ := noteByte_toNat s.cfg h hmax
  have ⟨_, hvel⟩ := velocityByte_toNat s.cfg h
  ⟨_, decodeMessage_noteOff _ slot hnote hvel⟩

/-- R86, R145: so is a Control-Change of a channel 0..3, in the form that `CC_LEN` gives it. -/
theorem State.loadCc_reads (s : State) {c : BitVec 3} (h : c.toNat ≤ 3) : (s.loadCc (c.setWidth 8)).ReadsWhole := by
  unfold State.ReadsWhole
  rw [State.loadCc_cfg]
  rcases s.loadCc_cases (c.setWidth 8) with ⟨hlen, e⟩ | ⟨hlen, e⟩ <;> rw [e, hlen]
  · exact ⟨_, decodeMessage_cc2 h s.preset⟩
  · have hctrl : (BitVec.ofNat 8 s.cfg.params.ccCtrl).toNat ≤ 127 := by
      have := s.cfg.ccCtrl_le
      rw [BitVec.toNat_ofNat]
      omega
    exact ⟨_, decodeMessage_cc3 h hctrl s.preset⟩

end Machine
end Sys2Proof
end

section
/-! SUPPORT. The machine's invariant, one part of State.legal at a time: every effect of a cycle keeps it. -/

namespace Sys2Proof.Machine

variable {s u : State}

/-! ## The scanner's part (spec/40_key_scanner.md R101, R103, R106, R107, R111) -/

/-- Clearing edge `line` leaves the other edges (R103). -/
theorem clearEdge_getLsbD (k : Keys) (line : Nat) {l : Nat} (hl : l < 13) :
    (k &&& ~~~(1#13 <<< line)).getLsbD l = (k.getLsbD l && decide (l ≠ line)) := by
  simp only [BitVec.getLsbD_and, BitVec.getLsbD_not, BitVec.getLsbD_shiftLeft, BitVec.getLsbD_one]
  grind

/-- The lowest pending edge is one of the 13 lines, and its event word names it (R80, R103). -/
theorem lowestEdge_line {k : Keys} {line : Nat} (low : lowestIn 13 k.getLsbD = some line) :
    line < 13 ∧ k.getLsbD line = true ∧ (BitVec.ofNat 4 line : Line).toNat = line := by
  obtain ⟨hlt, hbit, -⟩ := lowestIn_eq_some.mp low
  exact ⟨hlt, hbit, by rw [BitVec.toNat_ofNat]; omega⟩

/-- R107: the key of a pending press owns no slot, since an owner's level is still the old one, released; so no call reports
REUSE. -/
theorem State.scanLegal.not_reuse (l : s.scanLegal) {line : Nat} (low : lowestIn 13 s.pend.getLsbD = some line) :
    (s.pool.assign (s.cur.getLsbD line) (BitVec.ofNat 4 line)).kind ≠ .reuse := by
  intro hreuse
  obtain ⟨hedges, -, howners⟩ := l
  obtain ⟨hlt, hpend, hline⟩ := lowestEdge_line low
  obtain ⟨hpressed, i, hi, hit⟩ := Pool.assign_reuse hreuse
  obtain ⟨hv, hk⟩ := (Pool.hit_iff ..).mp hit
  have hseen : s.prev.getLsbD line = true := by simpa [hk, hline, State.seenLevel, hpend] using (howners i hi hv).2
  exact (hedges line hlt hpend).2 (hseen.trans hpressed.symm)

/-- The owners' clause of State.scanLegal: an owner is a key line seen pressed. -/
def State.OwnersSeen (s : State) : Prop :=
  ∀ i < 4, (s.pool.get i).v = true →
    (keyMask s.cfg).getLsbD (s.pool.get i).k.toNat = true ∧ s.seenLevel (s.pool.get i).k.toNat = true

theorem State.scanLegal_iff : s.scanLegal ↔
    (∀ l < 13, s.pend.getLsbD l = true → (keyMask s.cfg).getLsbD l = true ∧ s.prev.getLsbD l ≠ s.cur.getLsbD l) ∧
      (¬ s.inPoll → s.pend = 0#13 ∧ s.prev = s.cur) ∧ s.OwnersSeen := Iff.rfl

/-- Between polls every level seen is the sample's (R106). -/
theorem State.seenLevel_of_quiet (hpend : s.pend = 0#13) (l : Nat) : s.seenLevel l = s.cur.getLsbD l := by
  simp [State.seenLevel, hpend]

/-- SCAN_EDGE keeps the owners seen: an event's line is seen at its new level, the others as before, and the pool follows. -/
theorem State.scanEvent_ownersSeen (hpool : s.pool.legal) (l : s.scanLegal) {line : Nat}
    (low : lowestIn 13 s.pend.getLsbD = some line) : (s.scanEvent line).OwnersSeen := by
  obtain ⟨hedges, -, howners⟩ := l
  obtain ⟨hlt, hpend, hline⟩ := lowestEdge_line low
  intro i hi hv
  rw [State.scanEvent_pool] at hv ⊢
  rw [State.scanEvent_cfg]
  rcases Pool.assign_owner hpool.2 _ _ hi hv with ⟨hpressed, hk⟩ | ⟨hne, hsame⟩
  · rw [hk, hline]
    refine ⟨(hedges line hlt hpend).1, ?_⟩
    simp only [State.seenLevel, State.scanEvent_pend, State.scanEvent_cur, clearEdge_getLsbD _ _ hlt]
    simp [hpressed]
  · rw [hsame] at hv ⊢
    obtain ⟨hmask, hseen⟩ := howners i hi hv
    have hk : (s.pool.get i).k.toNat < 13 := BitVec.lt_of_getLsbD hmask
    have hother : (s.pool.get i).k.toNat ≠ line := fun e => hne (BitVec.eq_of_toNat_eq (e.trans hline.symm))
    refine ⟨hmask, ?_⟩
    simpa [State.seenLevel, clearEdge_getLsbD _ _ hk, hother] using hseen

/-- POLL_SAMPLE starts from a quiet scanner, so an owner that changes level gets an edge (R101, R107). -/
theorem State.pollSample_scanLegal (hst : s.st = sIdle) (l : s.scanLegal) :
    ({ s.quiet with
        cur := s.inputs.keyIn
        pend := keyMask s.cfg &&& (s.prev ^^^ s.inputs.keyIn) }.goto sScan).scanLegal := by
  obtain ⟨-, hquiet, howners⟩ := l
  obtain ⟨hpend, hprev⟩ := hquiet (by simp [State.inPoll, hst, seqCode_values])
  refine ⟨fun l hl => ?_, fun hpoll => absurd (.inl rfl) hpoll, fun i hi hv => ?_⟩
  · simp
  · obtain ⟨hmask, hseen⟩ := howners i hi hv
    rw [State.seenLevel_of_quiet hpend, ← hprev] at hseen
    refine ⟨hmask, ?_⟩
    simp [State.seenLevel, hmask, hseen]

/-- A cycle that writes neither the samples, the edges nor the pool, and leaves no poll, keeps the scanner's part. -/
theorem State.scanLegal.frame (l : s.scanLegal) (hpend : u.pend = s.pend) (hprev : u.prev = s.prev) (hcur : u.cur = s.cur)
    (hpool : u.pool = s.pool) (hcfg : u.cfg = s.cfg) (hpoll : s.inPoll → u.inPoll) : u.scanLegal := by
  simp only [State.scanLegal, State.seenLevel, hpend, hprev, hcur, hpool, hcfg]
  obtain ⟨hedges, hquiet, howners⟩ := l
  exact ⟨hedges, fun h => hquiet fun hs => h (hpoll hs), howners⟩

end Sys2Proof.Machine
end

section
/-! SUPPORT. The other parts of the machine's invariant, and the invariant whole. -/

namespace Sys2Proof.Machine

variable {s u : State}

/-- Only POLL_SAMPLE, SCAN_EDGE and SCAN_END write what the scanner's part reads, and no other effect leaves a poll. -/
theorem State.Effect.scanLegal (h : s.Effect u) (hpool : s.pool.legal) (l : s.scanLegal) : u.scanLegal := by
  have ⟨hedges, _, howners⟩ := l
  cases h
  case pollSample st btn => exact State.pollSample_scanLegal st l
  case scanEdge line st pend low =>
    refine State.scanLegal_iff.mpr ⟨fun k hk hbit => ?_, fun hpoll => ?_, State.scanEvent_ownersSeen hpool l low⟩
    · simp only [State.scanEvent_pend, clearEdge_getLsbD _ _ hk, Bool.and_eq_true] at hbit
      simpa using hedges k hk hbit.1
    · rcases s.scanEvent_seq line st with ⟨est, -⟩ | ⟨est, -, -, eret⟩
      · exact absurd (.inl est) hpoll
      · exact absurd (.inr ⟨est, eret⟩) hpoll
  case scanEnd st pend =>
    refine ⟨fun k _ hbit => ?_, fun _ => ⟨pend, rfl⟩, fun i hi hv => ?_⟩
    · simp [pend] at hbit
    · simpa [State.seenLevel, pend] using howners i hi hv
  all_goals
    refine l.frame (by simp) (by simp) (by simp) (by simp) (by simp) ?_
    simp_all [State.inPoll, seqCode_values]

/-! ## The octave and the pool (spec/10_state.md R31; spec/41_voice_arbiter.md R123; spec/43_mode_fsm.md R171) -/

/-- The octave moves by one, and only where its clamp leaves room (R169, R170). -/
theorem State.Effect.octaveInBounds (h : s.Effect u) (l : s.octaveInBounds) : u.octaveInBounds := by
  obtain ⟨hmin, hmax⟩ := l
  have hlt := s.octave.isLt
  obtain ⟨-, -, hmax15⟩ := s.cfg.octaves_ordered
  cases h
  case octDownStep st key room => constructor <;> simp [BitVec.toNat_sub] <;> omega
  case octUpStep st key room => constructor <;> simp [BitVec.toNat_add] <;> omega
  all_goals constructor <;> simpa

theorem State.Effect.poolLegal (h : s.Effect u) (l : s.pool.legal) : u.pool.legal := by
  cases h
  case scanEdge line st pend low =>
    obtain ⟨hlt, -, hline⟩ := lowestEdge_line low
    rw [State.scanEvent_pool]
    exact Pool.assign_legal l _ (by omega)
  all_goals simpa using l

/-! ## The counters (spec/10_state.md R32, R35) -/

/-- `ch_idx + 1` in the range where the rules use it (R167, R168). -/
theorem State.chIdxNext_le (h : s.chIdx.toNat ≤ 3) : s.chIdxNext.toNat ≤ 4 := by
  have hne : s.chIdx ≠ 7#3 := fun e => by simp [e] at h
  rw [State.chIdxNext, if_neg hne, BitVec.toNat_add, BitVec.toNat_ofNat]
  omega

/-- `tx_idx + 1` before the last byte (R147). -/
theorem State.txIdxNext_lt (hidx : s.txIdx.toNat < s.msgLen.toNat) (hlast : s.atLastByte = false) :
    s.txIdxNext.toNat < s.msgLen.toNat := by
  have hlen := s.msgLen.isLt
  have hmore : s.txIdx.toNat + 1 ≠ s.msgLen.toNat := by simpa [State.atLastByte] using hlast
  have hne : s.txIdx ≠ 3#2 := fun e => by rw [e] at hidx; simp at hidx; omega
  rw [State.txIdxNext, if_neg hne, BitVec.toNat_add, BitVec.toNat_ofNat]
  omega

/-- A Control-Change has 2 or 3 bytes (R86, R145). -/
theorem State.loadCc_msgLen (s : State) (c : Byte) : (s.loadCc c).msgLen = 2#2 ∨ (s.loadCc c).msgLen = 3#2 := by
  rcases s.loadCc_cases c with ⟨-, e⟩ | ⟨-, e⟩ <;> simp [e]

/-- R167: the line under test is one of the four. -/
theorem State.countersLegal.channel_le (l : s.countersLegal) (hne : s.chIdx ≠ 4#3) : s.chIdx.toNat ≤ 3 := by
  obtain ⟨-, -, hch, -, -⟩ := l
  have : s.chIdx.toNat ≠ 4 := fun e => hne (BitVec.eq_of_toNat_eq e)
  omega

/-- The message's length and index: set by a load, and counted up to the last byte (R32, R147). -/
theorem State.Effect.messageCounters (h : s.Effect u) (hlen : s.msgLen = 2#2 ∨ s.msgLen = 3#2)
    (hidx : s.txIdx.toNat < s.msgLen.toNat) :
    (u.msgLen = 2#2 ∨ u.msgLen = 3#2) ∧ u.txIdx.toNat < u.msgLen.toNat := by
  cases h
  case scanEdge line st pend low =>
    rcases s.scanEvent_seq line st with ⟨-, elen, eidx, -⟩ | ⟨-, elen, eidx, -⟩ <;> rw [elen, eidx]
    · exact ⟨hlen, hidx⟩
    · decide
  case txEnd st ready last => exact ⟨hlen, Nat.zero_lt_of_lt hidx⟩
  case txNext st ready last => exact ⟨hlen, State.txIdxNext_lt hidx last⟩
  case chselHeld st idx level =>
    rcases s.quiet.loadCc_msgLen (s.chIdx.setWidth 8) with e | e <;> simp [e]
  all_goals exact ⟨hlen, hidx⟩

/-- The line under test: at most one past the last line, and a line wherever a repeat is due (R35, R167, R168). -/
theorem State.Effect.channelCounter (h : s.Effect u) (hseq : s.seqLegal) (l : s.countersLegal) :
    u.chIdx.toNat ≤ 4 ∧ (u.inRepeat → u.chIdx.toNat ≤ 3) := by
  have hchannel := l.channel_le
  obtain ⟨-, -, hch, hrep, -⟩ := l
  obtain ⟨-, -, hwait⟩ := hseq
  cases h
  case scanEdge line st pend low =>
    rcases s.scanEvent_seq line st with ⟨est, -⟩ | ⟨est, -, -, eret⟩ <;> simp_all [State.inRepeat, seqCode_values]
  case waitEnd st cnt =>
    refine ⟨hch, ?_⟩
    rintro (e | ⟨e, -⟩) <;> simp_all [seqCode_values]
  case txEnd st ready last => exact ⟨hch, fun hr => hrep (.inr ⟨st, hr.elim id And.right⟩)⟩
  case chselHeld st idx level => exact ⟨by simpa using hch, fun _ => by simpa using hchannel idx⟩
  case chselNext st idx level =>
    exact ⟨State.chIdxNext_le (hchannel idx), by simp [State.inRepeat, st, seqCode_values]⟩
  case chselRepeat st => exact ⟨State.chIdxNext_le (hrep (.inl st)), by simp [State.inRepeat, seqCode_values]⟩
  all_goals simp_all [State.inRepeat, seqCode_values]

/-- While a flash is lit there are flashes to count: FLASH_ON lights one only then (R162, R163). -/
theorem State.Effect.flashCounter (h : s.Effect u) (hseq : s.seqLegal) (hflash : s.inFlash → s.flashCnt ≠ 0#2) :
    u.inFlash → u.flashCnt ≠ 0#2 := by
  obtain ⟨-, htx, -⟩ := hseq
  cases h
  case flashOn st cnt => exact fun _ => cnt
  case scanEdge line st pend low =>
    rcases s.scanEvent_seq line st with ⟨est, -⟩ | ⟨est, -⟩ <;> simp [State.inFlash, est, seqCode_values]
  case txEnd st ready last =>
    rintro (e | ⟨e, -⟩) <;> simp_all [seqCode_values]
  case waitEnd st cnt => exact fun hf => hflash (.inr ⟨st, hf.elim id And.right⟩)
  all_goals simp_all [State.inFlash, seqCode_values]

theorem State.Effect.countersLegal (h : s.Effect u) (hseq : s.seqLegal) (l : s.countersLegal) : u.countersLegal := by
  obtain ⟨hch, hrep⟩ := h.channelCounter hseq l
  obtain ⟨hlen, hidx, -, -, hflash⟩ := l
  obtain ⟨hlen', hidx'⟩ := h.messageCounters hlen hidx
  exact ⟨hlen', hidx', hch, hrep, h.flashCounter hseq hflash⟩

/-! ## The mode outputs (spec/43_mode_fsm.md R164; spec/60_exceptions.md R207) -/

/-- The overlay's and the flash's states are entered and left where `ovl` and `led` are written; a message and a wait return
inside them or outside them as they began. -/
theorem State.Effect.modeLegal (h : s.Effect u) (hseq : s.seqLegal) (l : s.modeLegal) : u.modeLegal := by
  obtain ⟨hovl, hled⟩ := l
  obtain ⟨-, htx, hwait⟩ := hseq
  simp only [List.mem_cons, List.not_mem_nil, or_false] at htx hwait
  cases h
  case scanEdge line st pend low =>
    rcases s.scanEvent_seq line st with ⟨est, -⟩ | ⟨est, -, -, eret⟩ <;>
      simp_all [State.modeLegal, State.inOverlay, State.inFlash, seqCode_values]
  case txEnd st ready last =>
    rcases htx with e | e | e <;> simp_all [State.modeLegal, State.inOverlay, State.inFlash, seqCode_values]
  case waitEnd st cnt =>
    rcases hwait with e | e | e | e | e | e <;>
      simp_all [State.modeLegal, State.inOverlay, State.inFlash, seqCode_values]
  all_goals simp_all [State.modeLegal, State.inOverlay, State.inFlash, seqCode_values]

/-! ## The message in `S_TX` and the report (spec/30_encoding.md R82; spec/60_exceptions.md R200) -/

/-- Neither a message nor a wait returns to `S_TX`. -/
theorem State.seqLegal.returns_ne_tx (l : s.seqLegal) : s.txRet ≠ sTx ∧ s.waitRet ≠ sTx := by
  obtain ⟨-, htx, hwait⟩ := l
  exact ⟨fun e => by simp [e, seqCode_values] at htx, fun e => by simp [e, seqCode_values] at hwait⟩

/-- The Note message of a SCAN_EDGE reads whole (R103, R140, R141). -/
theorem State.scanEvent_bufferLegal (ho : s.octaveInBounds) (hst : s.st = sScan) {line : Nat}
    (low : lowestIn 13 s.pend.getLsbD = some line) : (s.scanEvent line).bufferLegal := by
  obtain ⟨hlt, -, hline⟩ := lowestEdge_line low
  have hkey : (BitVec.ofNat 4 line : Line).toNat ≤ 12 := by omega
  have ho' : (s.afterCall line).octaveInBounds := ho
  rcases s.scanEvent_call_or_message line with e | ⟨slot, e⟩ <;> rw [e]
  · intro htx
    exact absurd (hst.symm.trans htx) (by decide)
  · apply State.ReadsWhole.bufferLegal
    split
    · exact State.loadNoteOn_reads ho' hkey slot
    · exact State.loadNoteOff_reads ho' hkey slot

theorem State.Effect.bufferLegal (h : s.Effect u) (hseq : s.seqLegal) (hcnt : s.countersLegal) (ho : s.octaveInBounds)
    (l : s.bufferLegal) : u.bufferLegal := by
  obtain ⟨htx, hwait⟩ := hseq.returns_ne_tx
  cases h
  case scanEdge line st pend low => exact State.scanEvent_bufferLegal ho st low
  case chselHeld st idx level =>
    have hreads : (s.quiet.loadCc (s.chIdx.setWidth 8)).ReadsWhole := s.quiet.loadCc_reads (hcnt.channel_le idx)
    exact State.ReadsWhole.bufferLegal hreads
  case txHold => exact l
  case txNext => exact l
  case txEnd => exact fun e => absurd e htx
  case waitEnd => exact fun e => absurd e hwait
  all_goals
    intro e
    simp_all [seqCode_values]

/-- SCAN_EDGE reports a key line and a kind that is not REUSE; every other effect takes the report back (R33, R200). -/
theorem State.Effect.resultLegal (h : s.Effect u) (hscan : s.scanLegal) (l : s.resultLegal) : u.resultLegal := by
  obtain ⟨hkind, hline, -⟩ := l
  cases h
  case scanEdge line st pend low =>
    obtain ⟨hlt, -, hkey⟩ := lowestEdge_line low
    simp only [State.resultLegal, State.scanEvent_resKind, State.scanEvent_resLine]
    exact ⟨ResKind.code_le _, by omega, fun _ => ResKind.code_eq_reuse.not.mpr (hscan.not_reuse low)⟩
  all_goals simp_all [State.resultLegal]

/-! ## The invariant whole -/

/-- Every effect of a cycle keeps the invariant. -/
theorem State.Effect.legal (h : s.Effect u) (l : s.legal) : u.legal := by
  obtain ⟨hseq, hcnt, hoct, hpool, hscan, hmode, hbuf, hres⟩ := l
  exact ⟨h.seqLegal hseq, h.countersLegal hseq hcnt, h.octaveInBounds hoct, h.poolLegal hpool, h.scanLegal hpool hscan,
    h.modeLegal hseq hmode, h.bufferLegal hseq hcnt hoct hbuf, h.resultLegal hscan hres⟩

/-- The invariant does not look at the pins or the free-value index. -/
theorem State.legal.nextCycle (l : u.legal) : u.nextCycle.legal := by
  rcases u.nextCycle_cases with ⟨i, rest, -, e⟩ | ⟨-, e⟩ <;> rw [e] <;> exact l

/-- R40, R220: the reset state for any parameters and inputs satisfies the invariant. -/
theorem State.resetWith_legal (c : Config) (i : Inputs) (stim : List Inputs) (k : Nat) :
    (State.resetWith c i stim k).legal := by
  have hoct : (State.resetWith c i stim k).octaveInBounds := by
    obtain ⟨hmin, hmax, h15⟩ := c.octaves_ordered
    have e : (BitVec.ofNat 4 c.params.octReset).toNat = c.params.octReset := by
      rw [BitVec.toNat_ofNat]
      omega
    simp only [State.octaveInBounds, State.resetWith, e]
    exact ⟨hmin, hmax⟩
  have hscan : (State.resetWith c i stim k).scanLegal := by
    have hfree : ∀ i < 4, (Pool.empty.get i).v = false := by decide
    exact ⟨by simp [State.resetWith], by simp [State.resetWith], by simp +contextual [State.resetWith, hfree]⟩
  refine ⟨?seq, ?counters, hoct, Pool.empty_legal, hscan, ?mode, ?buffer, ?result⟩
  all_goals
    simp [State.seqLegal, State.countersLegal, State.inRepeat, State.inFlash, State.modeLegal, State.inOverlay,
      State.bufferLegal, State.resultLegal, State.resetWith, seqCode_values]

/-- Settles O51: State.reset is one of the reset states. -/
theorem resetStatesAreLegal : Obligations.ResetStatesAreLegal :=
  ⟨State.resetWith_legal .., State.resetWith_legal⟩

/-- Settles O50: a reset cycle leads to a reset state, any other cycle to an effect of a legal state; then only the pins
move. -/
theorem stepKeepsLegalStates : Obligations.StepKeepsLegalStates := by
  intro s t l h
  rcases step_effect h with ⟨-, rfl⟩ | ⟨-, u, hu, rfl⟩
  · exact (State.resetWith_legal ..).nextCycle
  · exact (hu.legal l).nextCycle

end Sys2Proof.Machine
end

section
/-! SUPPORT. The Note encoders run with a line that has no table entry (spec/20_memory.md R61, spec/30_encoding.md R89; log 13). -/

namespace Sys2Proof.Machine

/-- The line codes that stand for no key line are 13..15 (R89). -/
theorem lineOk_eq_false_iff {line : Line} : lineOk line = false ↔ 13 ≤ line.toNat := by
  simp only [lineOk, decide_eq_false_iff_not]
  omega

/-- ENC_NOTE_ON refuses by name an operand line that fails the line check. -/
theorem exec_encNoteOn_of_not_lineOk {line : Line} (h : lineOk line = false) (slot : SlotIx) (s : State) :
    exec (.encNoteOn line slot) s = .refused (.illegalLine line) := by
  simp [exec, execEncNoteOn, h]

/-- So does ENC_NOTE_OFF. -/
theorem exec_encNoteOff_of_not_lineOk {line : Line} (h : lineOk line = false) (slot : SlotIx) (s : State) :
    exec (.encNoteOff line slot) s = .refused (.illegalLine line) := by
  simp [exec, execEncNoteOff, h]

/-- Settles O25: a line from 13 on fails the line check, which both encoders make before they read the tables. -/
theorem encodersRefuseLinesOutsideTheTables : Obligations.EncodersRefuseLinesOutsideTheTables := by
  intro s line slot hline
  have hbad : lineOk line = false := lineOk_eq_false_iff.mpr hline
  exact ⟨exec_encNoteOn_of_not_lineOk hbad slot s, exec_encNoteOff_of_not_lineOk hbad slot s⟩

end Sys2Proof.Machine
end

section
/-! SUPPORT. The fields of the event word and of a status byte, and what each selector decodes to (spec/30_encoding.md R80, R83,
R89, R92, R205). -/

namespace Sys2Proof

/-! ## The edge-event word (R80) -/

theorem lineOk_iff {line : Line} : lineOk line = true ↔ line.toNat ≤ 12 := by
  simp [lineOk]

@[simp] theorem eventLine_eventWord (pressed : Bool) (line : Line) : eventLine (eventWord pressed line) = line :=
  BitVec.extractLsb'_append_eq_right

@[simp] theorem eventPressed_eventWord (pressed : Bool) (line : Line) :
    eventPressed (eventWord pressed line) = pressed := by
  revert pressed line; decide

/-- An event word of a key line selects the arbiter call that its pressed bit names (R92). -/
theorem decode_eventWord (pressed : Bool) {line : Line} (h : lineOk line = true) :
    decode (.evt5 (eventWord pressed line)) = .ok (if pressed then .assignPress line else .assignRelease line) := by
  simp [decode, decodeEvent, h]

/-- An event word of a line 13..15 is refused by that line (R89). -/
theorem decode_eventWord_of_not_lineOk (pressed : Bool) {line : Line} (h : lineOk line = false) :
    decode (.evt5 (eventWord pressed line)) = .error (.illegalLine line) := by
  simp [decode, decodeEvent, h]

/-! ## The status byte (R83, R205) -/

@[simp] theorem statusChannel_statusByte (kind : BitVec 4) (chan : SlotIx) :
    statusChannel (statusByte kind chan) = some chan := by
  revert kind chan; decide

theorem statusByte_toNat (kind : BitVec 4) (chan : SlotIx) :
    (statusByte kind chan).toNat = kind.toNat * 16 + chan.toNat := by
  revert kind chan; decide

/-- A byte with a channel 0..3 is the status byte of that channel and of its high nibble. -/
theorem eq_statusByte_of_statusChannel {b : Byte} {chan : SlotIx} (h : statusChannel b = some chan) :
    b = statusByte (b.extractLsb' 4 4) chan := by
  unfold statusChannel at h
  split at h
  · rename_i hlow
    cases h
    have hmid : b.toNat / 4 % 4 = 0 := by simpa [Nat.shiftRight_eq_div_pow] using congrArg BitVec.toNat hlow
    apply BitVec.eq_of_toNat_eq
    simp only [statusByte_toNat, BitVec.extractLsb'_toNat, Nat.shiftRight_eq_div_pow]
    omega
  · cases h

/-- The masked comparison of R205 compares the kind nibbles. -/
@[simp] theorem statusMatches_statusByte (kind kind' : BitVec 4) (chan : SlotIx) :
    statusMatches (statusByte kind chan) (kind' ++ 0#4) = (kind == kind') := by
  have hmask : statusByte kind chan &&& 0xF0#8 = kind ++ 0#4 := by revert kind chan; decide
  rw [statusMatches, hmask, Bool.eq_iff_iff, beq_iff_eq, beq_iff_eq]
  exact BitVec.append_left_inj _

/-- A Note On status byte with a key line selects ENC_NOTE_ON (R84, R92). -/
theorem decode_note_noteOn (slot : SlotIx) {line : Line} (h : lineOk line = true) :
    decode (.note (statusByte kindNoteOn slot) line) = .ok (.encNoteOn line slot) := by
  simp [decode, decodeNote, h]

/-- A Note Off status byte with a key line selects ENC_NOTE_OFF (R85, R92). -/
theorem decode_note_noteOff (slot : SlotIx) {line : Line} (h : lineOk line = true) :
    decode (.note (statusByte kindNoteOff slot) line) = .ok (.encNoteOff line slot) := by
  have hkind : kindNoteOff ≠ kindNoteOn := by decide
  simp [decode, decodeNote, h, hkind]

/-- A Control-Change status byte selects ENC_CC (R86, R92). -/
theorem decode_control (c : SlotIx) : decode (.control (statusByte kindControlChange c)) = .ok (.encCc c) := by
  simp [decode, decodeControl]

/-! ## What decodes (R89, R91, R92) -/

/-- A choice between two well-formed operations is well formed. -/
theorem Instr.wf_ite {i j : Instr} (c : Bool) (hi : i.wf = true) (hj : j.wf = true) :
    (if c then i else j).wf = true := by
  cases c
  · exact hj
  · exact hi

/-- No operation of the sequencer's table has an operand. -/
theorem wf_of_decodeState {st : SeqCode} {btn edges : Bool} {i : Instr} (h : decodeState st btn edges = .ok i) :
    i.wf = true := by
  unfold decodeState at h
  split at h <;> cases h
  case h_1 => exact Instr.wf_ite _ rfl rfl
  case h_2 => exact Instr.wf_ite _ rfl rfl
  case h_7 => exact Instr.wf_ite _ rfl rfl
  all_goals rfl

/-- An event word decodes only past the line check. -/
theorem wf_of_decodeEvent {evt : BitVec 5} {i : Instr} (h : decodeEvent evt = .ok i) : i.wf = true := by
  simp only [decodeEvent] at h
  split at h <;> cases h
  rename_i hline
  exact Instr.wf_ite _ hline hline

/-- A Note selector decodes only past the line check. -/
theorem wf_of_decodeNote {status : Byte} {line : Line} {i : Instr} (h : decodeNote status line = .ok i) :
    i.wf = true := by
  unfold decodeNote at h
  split at h
  · cases h
  · split at h
    · rename_i hline
      split at h
      · cases h; exact hline
      · split at h <;> cases h
        exact hline
    · cases h

/-- A Control-Change has no line. -/
theorem wf_of_decodeControl {status : Byte} {i : Instr} (h : decodeControl status = .ok i) : i.wf = true := by
  unfold decodeControl at h
  split at h
  · cases h
  · split at h <;> cases h
    rfl

/-! ## The statements about the operation map -/

/-- Settles O55: an operation of the sequencer's table has one fixed word, and the others decode by the fields of their event
word or status byte. -/
theorem decodeOfEncodeIsTheOperation : Obligations.DecodeOfEncodeIsTheOperation := by
  intro i hwf
  cases i with
  | overlayEnter | pollSample | scanEdge | scanEnd | txByte | waitTick | flashOn | flashOff | overlayLoop | overlayExit
  | chselTest | chselRepeat | octDown | octUp => rfl
  | assignPress key => exact decode_eventWord true hwf
  | assignRelease key => exact decode_eventWord false hwf
  | encNoteOn line slot => exact decode_note_noteOn slot hwf
  | encNoteOff line slot => exact decode_note_noteOff slot hwf
  | encCc c => exact decode_control c

/-- Settles O56, one table of R92 at a time. -/
theorem decodedOperationsAreWellFormed : Obligations.DecodedOperationsAreWellFormed := by
  intro sel i h
  cases sel with
  | st4 st btn edges => exact wf_of_decodeState h
  | evt5 evt => exact wf_of_decodeEvent h
  | note status line => exact wf_of_decodeNote h
  | control status => exact wf_of_decodeControl h

/-- The status bytes as R84 to R86 write them: six fixed bits, then the channel. -/
theorem statusByte_bits (c : SlotIx) :
    0b100100#6 ++ c = statusByte kindNoteOn c ∧ 0b100000#6 ++ c = statusByte kindNoteOff c ∧
      0b101100#6 ++ c = statusByte kindControlChange c := by
  revert c; decide

/-- Settles O3: the rows of the sequencer's table hold for each of its codes and conditions, the others by their words' fields. -/
theorem operationMapIsTheTable : Obligations.OperationMapIsTheTable := by
  refine ⟨fun _ _ => ⟨rfl, rfl, rfl, rfl, rfl, rfl, rfl, rfl, rfl, rfl, rfl, rfl, rfl, rfl⟩, fun line h => ?event,
    fun line c h => ?status⟩
  case event =>
    have hline := lineOk_iff.mpr h
    exact ⟨decode_eventWord true hline, decode_eventWord false hline⟩
  case status =>
    have hline := lineOk_iff.mpr h
    obtain ⟨hon, hoff, hcc⟩ := statusByte_bits c
    rw [hon, hoff, hcc]
    exact ⟨decode_note_noteOn c hline, decode_note_noteOff c hline, decode_control c⟩

/-- Settles O58: each word is a row of the table with its fields filled in. -/
theorem writtenOutWordsDecode : Obligations.WrittenOutWordsDecode := by
  refine ⟨rfl, rfl, ?_, ?_, ?_, ?_, ?_⟩
  · exact decode_eventWord true (line := 9#4) rfl
  · exact decode_eventWord false (line := 9#4) rfl
  · exact decode_note_noteOn 3#2 (line := 5#4) rfl
  · exact decode_note_noteOff 1#2 (line := 12#4) rfl
  · exact decode_control 2#2

namespace Machine

/-- ASSIGN_PRESS refuses by name a line that fails the line check (R89). -/
theorem exec_assignPress_of_not_lineOk {key : Line} (h : lineOk key = false) (s : State) :
    exec (.assignPress key) s = .refused (.illegalLine key) := by
  simp [exec, execAssignPress, h]

/-- So does ASSIGN_RELEASE. -/
theorem exec_assignRelease_of_not_lineOk {key : Line} (h : lineOk key = false) (s : State) :
    exec (.assignRelease key) s = .refused (.illegalLine key) := by
  simp [exec, execAssignRelease, h]

/-- The scanner's event word is that of the lowest pending line (R80, R103). -/
theorem State.event_eq_some {s : State} {evt : BitVec 5} (h : s.event = some evt) :
    ∃ line, lowestIn 13 s.pend.getLsbD = some line ∧ evt = eventWord (s.cur.getLsbD line) (BitVec.ofNat 4 line) := by
  obtain ⟨line, low, e⟩ := Option.map_eq_some_iff.mp h
  exact ⟨line, low, e.symm⟩

/-- Settles O18: a line from 13 on fails the line check, and the scanner's lines are bits of the 13-bit edge mask. -/
theorem illegalEventLinesAreRefused : Obligations.IllegalEventLinesAreRefused := by
  constructor
  · intro s key hkey
    have hbad : lineOk key = false := lineOk_eq_false_iff.mpr hkey
    exact ⟨exec_assignPress_of_not_lineOk hbad s, exec_assignRelease_of_not_lineOk hbad s,
      decode_eventWord_of_not_lineOk true hbad, decode_eventWord_of_not_lineOk false hbad⟩
  · intro s evt h
    obtain ⟨line, low, rfl⟩ := State.event_eq_some h
    obtain ⟨hlt, -, hline⟩ := lowestEdge_line low
    have hfield : (eventWord (s.cur.getLsbD line) (BitVec.ofNat 4 line)).setWidth 4 = BitVec.ofNat 4 line :=
      BitVec.setWidth_append_eq_right
    rw [hfield, hline]
    omega

end Machine
end Sys2Proof
end

section
/-! SUPPORT. The receiver's decoder and the encoder of messages are inverse to each other, and what a message's bytes are
(spec/30_encoding.md R82 to R87, R90). -/

namespace Sys2Proof

variable {ccLen : Nat} {status b b1 b2 : Byte} {m : Message} {bytes rest : List Byte}

/-! ## What the receiver's decoder accepts -/

/-- A sequence of two readings succeeds when both do. -/
theorem bind_eq_ok {α β : Type} {x : Except DecodeError α} {f : α → Except DecodeError β} {r : β} :
    (x >>= f) = .ok r ↔ ∃ a, x = .ok a ∧ f a = .ok r := by
  cases x <;> simp [bind, Except.bind]

/-- A data byte is a 7-bit value, zero-extended (R82). -/
theorem eq_setWidth_of_dataByte {n : BitVec 7} (h : dataByte b = .ok n) : b = n.setWidth 8 := by
  unfold dataByte at h
  split at h <;> cases h
  rename_i hbit
  have hlt : b.toNat < 128 := by
    have := b.isLt
    simp only [BitVec.getLsbD, Nat.testBit_eq_decide_div_mod_eq, decide_eq_true_eq] at hbit
    omega
  apply BitVec.eq_of_toNat_eq
  simp only [BitVec.toNat_setWidth]
  omega

/-- A preset byte is a 2-bit value, zero-extended (R86). -/
theorem eq_setWidth_of_presetByte {p : BitVec 2} (h : presetByte b = .ok p) : b = p.setWidth 8 := by
  unfold presetByte at h
  split at h
  · cases h
  · split at h <;> cases h
    apply BitVec.eq_of_toNat_eq
    simp only [BitVec.toNat_setWidth]
    omega

/-- A byte that passes the channel check and a kind check is that kind's status byte (R83, R205). -/
theorem eq_statusByte_of_statusMatches {kind : BitVec 4} {chan : SlotIx} (hchan : statusChannel b = some chan)
    (hkind : statusMatches b (kind ++ 0#4) = true) : b = statusByte kind chan := by
  have hb := eq_statusByte_of_statusChannel hchan
  rw [hb, statusMatches_statusByte, beq_iff_eq] at hkind
  rw [hkind] at hb
  exact hb

/-- The fields that are read make the message whose bytes they are; its length is 2 exactly where the status byte says so (R84
to R87). -/
theorem encodeMessage_of_decodeFields (h : decodeFields ccLen status b1 b2 = .ok m) :
    encodeMessage m = if messageLength ccLen status = some 2 then [status, b1] else [status, b1, b2] := by
  unfold decodeFields at h
  split at h
  case h_1 => cases h
  case h_2 chan hchan =>
  split at h
  case isTrue hon =>
    obtain rfl : status = statusByte kindNoteOn chan := eq_statusByte_of_statusMatches hchan hon
    obtain ⟨note, hnote, h⟩ := bind_eq_ok.mp h
    obtain ⟨vel, hvel, h⟩ := bind_eq_ok.mp h
    cases h
    simp [encodeMessage, messageLength, hon, eq_setWidth_of_dataByte hnote, eq_setWidth_of_dataByte hvel]
  case isFalse hon =>
  split at h
  case isTrue hoff =>
    obtain rfl : status = statusByte kindNoteOff chan := eq_statusByte_of_statusMatches hchan hoff
    obtain ⟨note, hnote, h⟩ := bind_eq_ok.mp h
    obtain ⟨vel, hvel, h⟩ := bind_eq_ok.mp h
    cases h
    simp [encodeMessage, messageLength, hoff, eq_setWidth_of_dataByte hnote, eq_setWidth_of_dataByte hvel]
  case isFalse hoff =>
  split at h
  case isFalse => cases h
  case isTrue hcc =>
  obtain rfl : status = statusByte kindControlChange chan := eq_statusByte_of_statusMatches hchan hcc
  split at h
  case isTrue hlen =>
    obtain ⟨preset, hpreset, h⟩ := bind_eq_ok.mp h
    cases h
    simp [encodeMessage, messageLength, hon, hoff, hcc, hlen, eq_setWidth_of_presetByte hpreset]
  case isFalse hlen =>
    obtain ⟨ctrl, hctrl, h⟩ := bind_eq_ok.mp h
    obtain ⟨preset, hpreset, h⟩ := bind_eq_ok.mp h
    cases h
    simp [encodeMessage, messageLength, hon, hoff, hcc, hlen, eq_setWidth_of_dataByte hctrl,
      eq_setWidth_of_presetByte hpreset]

/-- A message is read exactly where its bytes stand whole: two of them where the status byte says length 2, else three. -/
theorem decodeMessage_eq_ok_iff :
    decodeMessage ccLen bytes = .ok (m, rest) ↔
      (∃ status b1, bytes = status :: b1 :: rest ∧ messageLength ccLen status = some 2 ∧
        decodeFields ccLen status b1 0#8 = .ok m) ∨
      (∃ status b1 b2 n, bytes = status :: b1 :: b2 :: rest ∧ messageLength ccLen status = some n ∧ n ≠ 2 ∧
        decodeFields ccLen status b1 b2 = .ok m) := by
  constructor
  · intro h
    unfold decodeMessage at h
    split at h
    case h_1 => cases h
    case h_2 status tail =>
    split at h
    case h_1 => cases h
    case h_2 b1 rest' hlen =>
      obtain ⟨_, hm, h⟩ := bind_eq_ok.mp h
      cases h
      exact .inl ⟨status, b1, rfl, hlen, hm⟩
    case h_3 n b1 b2 rest' hne hlen =>
      obtain ⟨_, hm, h⟩ := bind_eq_ok.mp h
      cases h
      exact .inr ⟨status, b1, b2, n, rfl, hlen, hne, hm⟩
    case h_4 => cases h
  · rintro (⟨status, b1, rfl, hlen, hm⟩ | ⟨status, b1, b2, n, rfl, hlen, hne, hm⟩)
    · simp [decodeMessage, hlen, hm, bind, Except.bind, pure, Except.pure]
    · simp [decodeMessage, hlen, hm, bind, Except.bind, pure, Except.pure]

/-- Whatever a receiver reads stood in the stream as the message's own bytes. -/
theorem eq_encodeMessage_of_decodeMessage (h : decodeMessage ccLen bytes = .ok (m, rest)) :
    bytes = encodeMessage m ++ rest := by
  rcases decodeMessage_eq_ok_iff.mp h with ⟨status, b1, rfl, hlen, hm⟩ | ⟨status, b1, b2, n, rfl, hlen, hne, hm⟩ <;>
    rw [encodeMessage_of_decodeFields hm]
  · simp [hlen]
  · simp [hlen, hne]

/-- What a receiver has read, it reads the same whatever follows. -/
theorem decodeMessage_append (h : decodeMessage ccLen bytes = .ok (m, rest)) (tail : List Byte) :
    decodeMessage ccLen (bytes ++ tail) = .ok (m, rest ++ tail) := by
  rw [decodeMessage_eq_ok_iff] at h ⊢
  rcases h with ⟨status, b1, rfl, hlen, hm⟩ | ⟨status, b1, b2, n, rfl, hlen, hne, hm⟩
  · exact .inl ⟨status, b1, rfl, hlen, hm⟩
  · exact .inr ⟨status, b1, b2, n, rfl, hlen, hne, hm⟩

/-! ## The round trip -/

/-- The three status bytes as the encoder forms them: the kind's byte, ored with the channel (R140, R141, R145). -/
theorem statusByte_eq_or (c : SlotIx) :
    statusByte kindNoteOn c = 0x90#8 ||| c.setWidth 8 ∧ statusByte kindNoteOff c = 0x80#8 ||| c.setWidth 8 ∧
      statusByte kindControlChange c = 0xB0#8 ||| (c.setWidth 3).setWidth 8 := by
  revert c; decide

/-- A zero-extended field is at most 127 (R82). -/
theorem setWidth_le_127 {w : Nat} (hw : w ≤ 7) (x : BitVec w) : (x.setWidth 8).toNat ≤ 127 := by
  have := x.isLt
  have : 2 ^ w ≤ 2 ^ 7 := Nat.pow_le_pow_right (by omega) hw
  rw [BitVec.toNat_setWidth]
  omega

/-- Settles O57: a message by itself is read whole, by its own rule, and whatever follows stays. -/
theorem receiverReadsMessagesBack : Obligations.ReceiverReadsMessagesBack := by
  intro m rest ccLen hlen
  suffices h : decodeMessage ccLen (encodeMessage m) = .ok (m, []) from decodeMessage_append h rest
  cases m with
  | noteOn slot note vel =>
    simpa [encodeMessage, statusByte_eq_or] using
      decodeMessage_noteOn ccLen slot (setWidth_le_127 le_rfl note) (setWidth_le_127 le_rfl vel)
  | noteOff slot note vel =>
    simpa [encodeMessage, statusByte_eq_or] using
      decodeMessage_noteOff ccLen slot (setWidth_le_127 le_rfl note) (setWidth_le_127 le_rfl vel)
  | cc2 c preset =>
    subst hlen
    have hc : (c.setWidth 3).toNat ≤ 3 := by bv_omega
    simpa [encodeMessage, statusByte_eq_or] using decodeMessage_cc2 hc preset
  | cc3 c ctrl preset =>
    subst hlen
    have hc : (c.setWidth 3).toNat ≤ 3 := by bv_omega
    simpa [encodeMessage, statusByte_eq_or] using decodeMessage_cc3 hc (setWidth_le_127 le_rfl ctrl) preset

/-! ## Framing (R82, R90) -/

/-- The twelve status bytes of the KMB (R82). -/
def kmbStatusBytes : List Byte :=
  [0x80#8, 0x81#8, 0x82#8, 0x83#8, 0x90#8, 0x91#8, 0x92#8, 0x93#8, 0xB0#8, 0xB1#8, 0xB2#8, 0xB3#8]

theorem statusByte_mem (c : SlotIx) :
    statusByte kindNoteOn c ∈ kmbStatusBytes ∧ statusByte kindNoteOff c ∈ kmbStatusBytes ∧
      statusByte kindControlChange c ∈ kmbStatusBytes := by
  revert c; decide

theorem setWidth_pair_le_127 {v w : Nat} (hv : v ≤ 7) (hw : w ≤ 7) (x : BitVec v) (y : BitVec w) :
    ∀ d ∈ [x.setWidth 8, y.setWidth 8], d.toNat ≤ 127 :=
  List.forall_mem_cons.mpr ⟨setWidth_le_127 hv x, List.forall_mem_singleton.mpr (setWidth_le_127 hw y)⟩

/-- A message is one of the twelve status bytes, and then data bytes. -/
theorem encodeMessage_framing (m : Message) :
    ∃ status data, encodeMessage m = status :: data ∧ status ∈ kmbStatusBytes ∧ ∀ d ∈ data, d.toNat ≤ 127 := by
  cases m with
  | noteOn slot note vel =>
    obtain ⟨hon, -, -⟩ := statusByte_mem slot
    exact ⟨_, _, rfl, hon, setWidth_pair_le_127 le_rfl le_rfl note vel⟩
  | noteOff slot note vel =>
    obtain ⟨-, hoff, -⟩ := statusByte_mem slot
    exact ⟨_, _, rfl, hoff, setWidth_pair_le_127 le_rfl le_rfl note vel⟩
  | cc2 c preset =>
    obtain ⟨-, -, hcc⟩ := statusByte_mem c
    exact ⟨_, _, rfl, hcc, List.forall_mem_singleton.mpr (setWidth_le_127 (by decide) preset)⟩
  | cc3 c ctrl preset =>
    obtain ⟨-, -, hcc⟩ := statusByte_mem c
    exact ⟨_, _, rfl, hcc, setWidth_pair_le_127 le_rfl (by decide) ctrl preset⟩

namespace Machine

/-- In `S_TX` the invariant's message part says that the buffer reads whole. -/
theorem State.bufferLegal.readsWhole {s : State} (l : s.bufferLegal) (hst : s.st = sTx) : s.ReadsWhole := by
  have hread := l hst
  cases e : decodeMessage s.cfg.params.ccLen s.message with
  | error => simp [e, Except.toOption] at hread
  | ok read =>
    obtain ⟨m, rest⟩ := read
    obtain rfl : rest = [] := by simpa [e, Except.toOption] using hread
    exact ⟨m, e⟩

/-- With the index inside the message, the byte offered is the message's byte at the index (R32, R38). -/
theorem State.message_getElem? {s : State} (h : s.txIdx.toNat < s.msgLen.toNat) :
    s.message[s.txIdx.toNat]? = some s.currentByte := by
  rw [State.message, List.getElem?_take_of_lt h]
  have hidx : s.txIdx = 0#2 ∨ s.txIdx = 1#2 ∨ s.txIdx = 2#2 := by bv_omega
  obtain ⟨h0, h1, h2⟩ := s.currentByte_cases
  rcases hidx with e | e | e
  · rw [h0 e, e]; rfl
  · rw [h1 e, e]; rfl
  · rw [h2 e, e]; rfl

/-- Settles O30: the buffer reads as one whole message, so it is that message's bytes: a status byte, then data bytes. -/
theorem offeredBytesKeepMidiFraming : Obligations.OfferedBytesKeepMidiFraming := by
  intro s ⟨_, ⟨_, hidx, _⟩, _, _, _, _, hbuffer, _⟩ hst
  obtain ⟨m, hread⟩ := hbuffer.readsWhole hst
  obtain ⟨status, data, hmessage, hstatus, hdata⟩ := encodeMessage_framing m
  have hbytes : s.message = status :: data := by
    rw [eq_encodeMessage_of_decodeMessage hread, hmessage, List.append_nil]
  have hoffered : (status :: data)[s.txIdx.toNat]? = some s.outputs.txData := by
    rw [← hbytes, State.message_getElem? hidx]
    exact congrArg some (if_pos hst).symm
  constructor
  · intro h0
    obtain rfl : status = s.outputs.txData := by simpa [h0] using hoffered
    exact hstatus
  · intro hne
    obtain ⟨k, hk⟩ := Nat.exists_eq_succ_of_ne_zero (n := s.txIdx.toNat) (by bv_omega)
    rw [hk, List.getElem?_cons_succ] at hoffered
    exact hdata _ (List.mem_of_getElem? hoffered)

end Machine
end Sys2Proof
end

section
/-! SUPPORT. The Key Scanner's operations (spec/40_key_scanner.md R101 to R106, R111): the sample and its edge mask, the edge
that a cycle processes, and the arbiter call and the encoding it is made of. -/

namespace Sys2Proof.Machine

/-! ## The start and the end of a poll (R101, R102, R106) -/

/-- Settles O9: the selector's row, and the two steps of the transition, the sample and the move, in one record. -/
theorem pollSampleResult : Obligations.PollSampleResult :=
  ⟨fun _ => rfl, fun _ => rfl⟩

/-- Settles O14, in the same way. -/
theorem scanEndResult : Obligations.ScanEndResult :=
  ⟨fun _ => rfl, fun _ => rfl⟩

/-- `KEY_MASK` as a 13-bit mask has the parameter's bits (R7). -/
theorem keyMask_getLsbD (c : Config) {l : Nat} (hl : l < 13) : (keyMask c).getLsbD l = c.params.keyMask.testBit l := by
  rw [keyMask, BitVec.getLsbD_ofNat, decide_eq_true hl, Bool.true_and]

/-- A bit of the edge mask is a mask bit under which the two samples differ (R102). -/
theorem edgeMask_getLsbD (mask old new : Keys) (l : Nat) :
    (mask &&& (old ^^^ new)).getLsbD l = true ↔ mask.getLsbD l = true ∧ old.getLsbD l ≠ new.getLsbD l := by
  simp

/-- Settles O10: POLL_SAMPLE's result, read bit by bit. -/
theorem edgeMaskHoldsChangedKeyLines : Obligations.EdgeMaskHoldsChangedKeyLines := by
  intro s
  obtain ⟨-, result⟩ := pollSampleResult
  refine ⟨_, result s, fun l hl => ⟨rfl, ?_⟩⟩
  rw [← keyMask_getLsbD s.cfg hl]
  exact edgeMask_getLsbD (keyMask s.cfg) s.prev s.inputs.keyIn l

/-! ## The edge of a cycle (R103, R104) -/

/-- Settles O12: the lowest edge of a non-zero mask is the one that SCAN_EDGE reports and clears. -/
theorem scanEdgeClearsExactlyTheLowestEdge : Obligations.ScanEdgeClearsExactlyTheLowestEdge := by
  intro s hpend
  obtain ⟨line, low⟩ := lowest_pend hpend
  obtain ⟨hlt, hbit, hleast⟩ := lowestIn_eq_some.mp low
  obtain ⟨-, -, hline⟩ := lowestEdge_line low
  refine ⟨s.scanEvent line, line, execScanEdge_of_lowest low, hlt, hbit, hleast, s.scanEvent_resValid line, ?reported,
    s.scanEvent_prev line, s.scanEvent_cur line, fun j hj => ?cleared⟩
  case reported => rw [State.scanEvent_resLine, hline]
  case cleared => simp [clearEdge_getLsbD s.pend line hj]

/-! ## The two operations inside a SCAN_EDGE (R103) -/

/-- The arbiter call that an event of a key line selects: the pool's answer, reported (R121, R122; log 7). -/
theorem exec_arbiterCall (pressed : Bool) {key : Line} (h : lineOk key = true) (s : State) :
    exec (if pressed then .assignPress key else .assignRelease key) s =
      .next (s.reportCall key (s.pool.assign pressed key)) := by
  cases pressed with
  | true => exact if_pos h
  | false => exact if_pos h

/-- The Note message of an event of a key line (R140, R141). -/
theorem exec_noteMessage (pressed : Bool) {line : Line} (h : lineOk line = true) (slot : SlotIx) (s : State) :
    exec (if pressed then .encNoteOn line slot else .encNoteOff line slot) s =
      .next (if pressed then s.loadNoteOn line slot else s.loadNoteOff line slot) := by
  cases pressed with
  | true => exact if_pos h
  | false => exact if_pos h

/-- The codes 3 and 4 are those of OVERFLOW and SPURIOUS (R200). -/
theorem ResKind.code_eq_noSlot {k : ResKind} : (k.code = 3#3 ∨ k.code = 4#3) ↔ (k = .overflow ∨ k = .spurious) := by
  cases k <;> decide

/-- The reported kind tells whether the call gave a slot (R120, R200). -/
theorem Pool.assign_code_noSlot (p : Pool) (pressed : Bool) (key : Line) :
    ((p.assign pressed key).kind.code = 3#3 ∨ (p.assign pressed key).kind.code = 4#3) ↔
      (p.assign pressed key).slot = none :=
  ResKind.code_eq_noSlot.trans (p.assign_slot_none pressed key).symm

/-- Without a slot, the call and its report are all that SCAN_EDGE does. -/
theorem State.scanEvent_of_noSlot {s : State} {line : Nat}
    (h : (s.pool.assign (s.cur.getLsbD line) (BitVec.ofNat 4 line)).slot = none) :
    s.scanEvent line = s.afterCall line := by
  rcases s.scanEvent_cases line with ⟨-, e⟩ | ⟨i, -, hslot, -⟩
  · exact e
  · cases h.symm.trans hslot

/-- With a slot, SCAN_EDGE goes on to send the Note message of the slot that the report names. -/
theorem State.scanEvent_of_slot {s : State} {line : Nat}
    (h : (s.pool.assign (s.cur.getLsbD line) (BitVec.ofNat 4 line)).slot ≠ none) :
    s.scanEvent line =
      (if s.cur.getLsbD line then (s.afterCall line).loadNoteOn (BitVec.ofNat 4 line) (s.afterCall line).resSlot
        else (s.afterCall line).loadNoteOff (BitVec.ofNat 4 line) (s.afterCall line).resSlot).startTx sScan := by
  rcases s.scanEvent_cases line with ⟨hslot, -⟩ | ⟨i, -, hslot, e⟩
  · exact absurd hslot h
  · have hreport : (s.afterCall line).resSlot = BitVec.ofNat 2 i := by
      rw [State.afterCall, State.reportCall_resSlot, hslot, Option.getD_some]
    rw [hreport]
    exact e

/-- Settles O11: the call is the event word's, and the kind it reports tells the two ways that SCAN_EDGE can go on. -/
theorem scanEdgeIsAssignThenEncode : Obligations.ScanEdgeIsAssignThenEncode := by
  refine ⟨fun _ => rfl, fun s line hlt hbit hleast => ?_⟩
  have low : lowestIn 13 s.pend.getLsbD = some line := lowestIn_eq_some.mpr ⟨hlt, hbit, hleast⟩
  obtain ⟨-, -, hline⟩ := lowestEdge_line low
  have hkey : lineOk (BitVec.ofNat 4 line) = true := lineOk_iff.mpr (by omega)
  have hkind := s.pool.assign_code_noSlot (s.cur.getLsbD line) (BitVec.ofNat 4 line)
  rw [execScanEdge_of_lowest low]
  refine ⟨_, _, decode_eventWord _ hkey, exec_arbiterCall _ hkey s, rfl, rfl, fun h => ?none, fun h => ?call,
    fun h => ?message⟩
  case none => rw [State.reportCall_resSlot, hkind.mp h, Option.getD_none]
  case call => exact congrArg _ (State.scanEvent_of_noSlot (hkind.mp h))
  case message =>
    exact ⟨_, exec_noteMessage _ hkey _ _, congrArg _ (State.scanEvent_of_slot (mt hkind.mpr h))⟩

end Sys2Proof.Machine
end

section
/-! SUPPORT. The Voice Arbiter's operations (spec/41_voice_arbiter.md R120 to R124, R127): the slot that a call answers for, what
each call does there, and what the calls for other keys leave as it is. -/

namespace Sys2Proof.Machine

/-! ## The pool over every step (R31, R123) and the report of REUSE (R127) -/

/-- Settles O19: reset empties the pool, an arbiter call for a key line keeps it legal, and no other effect writes it. -/
theorem stepKeepsPoolInjective : Obligations.StepKeepsPoolInjective := by
  refine ⟨fun c i l k => Pool.empty_legal, fun s t legal h => ?step⟩
  rcases step_effect h with ⟨-, rfl⟩ | ⟨-, u, hu, rfl⟩
  · rw [State.nextCycle_pool]
    exact Pool.empty_legal
  · rw [State.nextCycle_pool]
    exact hu.poolLegal legal

/-- Settles O49: the step leads to a legal state, whose report is not REUSE. -/
theorem reuseIsNeverReported : Obligations.ReuseIsNeverReported := by
  intro s t legal h ⟨hvalid, hreuse⟩
  obtain ⟨-, -, -, -, -, -, -, hresult⟩ := stepKeepsLegalStates s t legal h
  obtain ⟨-, -, hnot⟩ := hresult
  exact hnot hvalid hreuse

/-! ## The slot that a call answers for (R120) -/

section
variable {p : Pool} {key : Line} {i : Nat}

/-- `lowest(hit)`: the least slot that the key owns. -/
theorem Pool.lowestHit_eq_some : lowestIn 4 (p.hit key) = some i ↔
    i < 4 ∧ ((p.get i).v = true ∧ (p.get i).k = key) ∧ ∀ j < i, ¬ ((p.get j).v = true ∧ (p.get j).k = key) := by
  simp only [lowestIn_eq_some, ← Pool.hit_iff, Bool.not_eq_true]

/-- `hit = 0`: the key owns no slot. -/
theorem Pool.lowestHit_eq_none :
    lowestIn 4 (p.hit key) = none ↔ ∀ j < 4, ¬ ((p.get j).v = true ∧ (p.get j).k = key) := by
  simp only [lowestIn_eq_none, ← Pool.hit_iff, Bool.not_eq_true]

/-- `lowest(free)`: the least FREE slot. -/
theorem Pool.lowestFree_eq_some :
    lowestIn 4 p.isFree = some i ↔ i < 4 ∧ (p.get i).v = false ∧ ∀ j < i, (p.get j).v = true := by
  simp only [lowestIn_eq_some, Pool.isFree, Bool.not_eq_true', Bool.not_eq_false']

/-- `free = 0`: every slot is owned. -/
theorem Pool.lowestFree_eq_none : lowestIn 4 p.isFree = none ↔ ∀ j < 4, (p.get j).v = true := by
  simp only [lowestIn_eq_none, Pool.isFree, Bool.not_eq_false']

/-! ## What the two calls answer (R121, R122) -/

theorem Pool.press_of_hit (hit : lowestIn 4 (p.hit key) = some i) : p.press key = ⟨some i, .reuse, p⟩ := by
  simp only [Pool.press, hit]

theorem Pool.press_of_free (miss : lowestIn 4 (p.hit key) = none) (free : lowestIn 4 p.isFree = some i) :
    p.press key = ⟨some i, .claim, p.set i ⟨true, key⟩⟩ := by
  simp only [Pool.press, miss, free]

theorem Pool.press_of_full (miss : lowestIn 4 (p.hit key) = none) (full : lowestIn 4 p.isFree = none) :
    p.press key = ⟨none, .overflow, p⟩ := by
  simp only [Pool.press, miss, full]

theorem Pool.release_of_hit (hit : lowestIn 4 (p.hit key) = some i) :
    p.release key = ⟨some i, .free, p.set i Slot.freeSlot⟩ := by
  simp only [Pool.release, hit]

theorem Pool.release_of_miss (miss : lowestIn 4 (p.hit key) = none) : p.release key = ⟨none, .spurious, p⟩ := by
  simp only [Pool.release, miss]

/-- The call of a key line that is pressed, run by itself (R121; log 7). -/
theorem exec_assignPress (h : lineOk key = true) (s : State) :
    exec (.assignPress key) s = .next (s.reportCall key (s.pool.press key)) :=
  exec_arbiterCall true h s

/-- The call of a key line that is released (R122; log 7). -/
theorem exec_assignRelease (h : lineOk key = true) (s : State) :
    exec (.assignRelease key) s = .next (s.reportCall key (s.pool.release key)) :=
  exec_arbiterCall false h s

end

/-- Settles O16: the lowest hit answers, or without a hit the lowest free slot, or without either none. -/
theorem assignPressResult : Obligations.AssignPressResult := by
  intro s key hkey
  have hline : lineOk key = true := lineOk_iff.mpr hkey
  rw [exec_assignPress hline]
  refine ⟨decode_eventWord true hline, fun i hi hit least => ?reuse, fun miss => ⟨fun i hi free least => ?claim,
    fun full => ?overflow⟩⟩
  case reuse =>
    rw [Pool.press_of_hit (Pool.lowestHit_eq_some.mpr ⟨hi, hit, least⟩)]
    rfl
  case claim =>
    rw [Pool.press_of_free (Pool.lowestHit_eq_none.mpr miss) (Pool.lowestFree_eq_some.mpr ⟨hi, free, least⟩)]
    rfl
  case overflow =>
    rw [Pool.press_of_full (Pool.lowestHit_eq_none.mpr miss) (Pool.lowestFree_eq_none.mpr full)]
    rfl

/-- Settles O17: the lowest hit answers, or without a hit none. -/
theorem assignReleaseResult : Obligations.AssignReleaseResult := by
  intro s key hkey
  have hline : lineOk key = true := lineOk_iff.mpr hkey
  rw [exec_assignRelease hline]
  refine ⟨decode_eventWord false hline, fun i hi hit least => ?free, fun miss => ?spurious⟩
  case free =>
    rw [Pool.release_of_hit (Pool.lowestHit_eq_some.mpr ⟨hi, hit, least⟩)]
    rfl
  case spurious =>
    rw [Pool.release_of_miss (Pool.lowestHit_eq_none.mpr miss)]
    rfl

/-! ## A granted slot stays the key's until its release (R124) -/

/-- An arbiter call goes on for key lines only, as the pool's answer, reported (R89; log 7). -/
theorem exec_arbiterCall_next {pressed : Bool} {key : Line} {s t : State}
    (h : exec (if pressed then .assignPress key else .assignRelease key) s = .next t) :
    lineOk key = true ∧ t = s.reportCall key (s.pool.assign pressed key) := by
  cases hline : lineOk key with
  | true =>
    rw [exec_arbiterCall pressed hline] at h
    cases h
    exact ⟨rfl, rfl⟩
  | false => cases pressed <;> simp [exec_assignPress_of_not_lineOk hline, exec_assignRelease_of_not_lineOk hline] at h

/-- A slot that is written from one without `key` to one without `key` leaves the slots of `key` as they were. -/
theorem Pool.hit_set_of_not_hit {p : Pool} {key : Line} {i j : Nat} {x : Slot} (hi : i < 4) (hj : j < 4)
    (before : p.hit key i = false) (after : x.v = true → x.k ≠ key) : (p.set i x).hit key j = p.hit key j := by
  rw [Bool.eq_iff_iff, Pool.hit_iff, Pool.get_set p x hi hj]
  split
  case isTrue e =>
    subst e
    simp only [before, Bool.false_eq_true, iff_false, not_and]
    exact after
  case isFalse => exact (p.hit_iff key j).symm

/-- A call for another key claims a FREE slot or frees one that the other key owns: the slots of `key` stay. -/
theorem Pool.assign_hit_of_ne (p : Pool) (pressed : Bool) {key other : Line} (hne : other ≠ key) {j : Nat} (hj : j < 4) :
    (p.assign pressed other).pool.hit key j = p.hit key j := by
  unfold Pool.assign
  split
  · rcases p.press_cases other with ⟨i, -, -, e⟩ | ⟨-, i, hi, hfree, -, e⟩ | ⟨-, -, e⟩
    · rw [e]
    · rw [e]
      exact Pool.hit_set_of_not_hit hi hj (by simp [Pool.hit, hfree]) fun _ => hne
    · rw [e]
  · rcases p.release_cases other with ⟨i, hi, hhit, -, e⟩ | ⟨-, e⟩
    · rw [e]
      obtain ⟨-, howner⟩ := (p.hit_iff other i).mp hhit
      exact Pool.hit_set_of_not_hit hi hj (by simp [Pool.hit, howner, hne]) (by simp [Slot.freeSlot])
    · rw [e]

/-- `lowest` reads no index from its bound on (R10). -/
theorem lowestIn_congr {n : Nat} {m m' : Nat → Bool} (h : ∀ j < n, m j = m' j) : lowestIn n m = lowestIn n m' :=
  List.find?_congr fun j hj => h j (List.mem_range.mp hj)

/-- Whatever calls go on for other keys, the slot that answers for `key` is the same after them. -/
theorem lowestHit_of_arbiterCalls {key : Line} {calls : List (Bool × Line)} (hne : ∀ c ∈ calls, c.2 ≠ key) {s u : State}
    (h : arbiterCalls calls s = .next u) : lowestIn 4 (u.pool.hit key) = lowestIn 4 (s.pool.hit key) := by
  induction calls generalizing s with
  | nil =>
    cases h
    rfl
  | cons call rest ih =>
    obtain ⟨hcall, hrest⟩ := List.forall_mem_cons.mp hne
    simp only [arbiterCalls] at h
    split at h
    case h_1 t ht =>
      obtain ⟨-, rfl⟩ := exec_arbiterCall_next ht
      rw [ih hrest h, State.reportCall_pool]
      exact lowestIn_congr fun j hj => s.pool.assign_hit_of_ne call.1 hcall hj
    all_goals cases h

/-- A press that does not overflow answers a slot, and from then on that slot answers for the key. -/
theorem Pool.press_grants {p : Pool} {key : Line} (h : (p.press key).kind ≠ .overflow) :
    ∃ i < 4, (p.press key).slot = some i ∧ lowestIn 4 ((p.press key).pool.hit key) = some i := by
  cases hit : lowestIn 4 (p.hit key) with
  | some i =>
    rw [Pool.press_of_hit hit]
    exact ⟨i, (lowestIn_eq_some.mp hit).1, rfl, hit⟩
  | none =>
    cases free : lowestIn 4 p.isFree with
    | some i =>
      obtain ⟨hi, -, -⟩ := lowestIn_eq_some.mp free
      rw [Pool.press_of_free hit free]
      refine ⟨i, hi, rfl, lowestIn_eq_some.mpr ⟨hi, ?owned, fun j hj => ?below⟩⟩
      case owned => simp [Pool.hit, Pool.get_set p _ hi hi]
      case below =>
        have hmiss := lowestIn_eq_none.mp hit j (by omega)
        have hget := Pool.get_set p ⟨true, key⟩ hi (show j < 4 by omega)
        rwa [Pool.hit, hget, if_neg (by omega)]
    | none => exact absurd (by rw [Pool.press_of_full hit free]) h

/-- Settles O20: the slot of the press's report answers for the key, the other keys' calls keep it so, and the release frees
the slot that answers. -/
theorem releaseFreesTheGrantedSlot : Obligations.ReleaseFreesTheGrantedSlot := by
  intro s t u key calls hpress hkind hne hcalls
  obtain ⟨hline, rfl⟩ := exec_arbiterCall_next (pressed := true) hpress
  obtain ⟨i, hi, hslot, hit⟩ := Pool.press_grants (p := s.pool) (key := key) fun e => hkind (congrArg ResKind.code e)
  have hrelease := Pool.release_of_hit ((lowestHit_of_arbiterCalls hne hcalls).trans hit)
  have hreport : (s.reportCall key (s.pool.assign true key)).resSlot = BitVec.ofNat 2 i := by
    simp [Pool.assign, hslot]
  have hindex : (BitVec.ofNat 2 i).toNat = i := by
    rw [BitVec.toNat_ofNat]
    omega
  rw [hreport]
  refine ⟨_, exec_assignRelease hline u, ?_⟩
  rw [hrelease, hindex]
  refine ⟨rfl, rfl, rfl, ?freed⟩
  rw [State.reportCall_pool, Pool.get_set u.pool _ hi hi, if_pos rfl]
  rfl

end Sys2Proof.Machine
end

section
/-! SUPPORT. The encoding operations (spec/42_midi_encoder.md R140 to R145): the tables read at a line of the 13, and the message
that each operation loads. -/

namespace Sys2Proof.Machine

/-! ## The tables at a key line (R61, R142, R143) -/

section
variable (c : Config) (line : Fin 13)

/-- A number 0..12 as a line code keeps its value (R80). -/
theorem toNat_ofNat_line : (BitVec.ofNat 4 line : Line).toNat = line := by
  rw [BitVec.toNat_ofNat]
  omega

theorem lineOk_ofNat_line : lineOk (BitVec.ofNat 4 line) = true := by
  rw [lineOk_iff, toNat_ofNat_line]
  omega

/-- The model's total reading of a table, at an index the table has. -/
theorem getD_toList_ofNat_line (table : Vector Nat 13) :
    table.toList.getD (BitVec.ofNat 4 line : Line).toNat 0 = table[line] := by
  rw [toNat_ofNat_line, List.getD_eq_getElem _ _ (by simp)]
  exact Vector.getElem_toList _

theorem noteOffsetAt_ofNat_line : noteOffsetAt c (BitVec.ofNat 4 line) = c.params.noteOffset[line] :=
  getD_toList_ofNat_line line c.params.noteOffset

theorem noteByte_ofNat_line (octave : BitVec 4) :
    noteByte c (BitVec.ofNat 4 line) octave = BitVec.ofNat 8 (c.params.noteOffset[line] + octave.toNat * 12) := by
  rw [noteByte, noteOffsetAt_ofNat_line]

theorem velocityByte_ofNat_line : velocityByte c (BitVec.ofNat 4 line) = BitVec.ofNat 8 c.params.vel[line] := by
  rw [velocityByte, getD_toList_ofNat_line]

end

/-! ## The messages (R140, R141, R145) -/

/-- Settles O21: the Note On of a key line, its two data bytes read from the tables. -/
theorem noteOnEncoding : Obligations.NoteOnEncoding := by
  intro s line slot
  rw [← noteByte_ofNat_line, ← velocityByte_ofNat_line]
  exact exec_noteMessage true (lineOk_ofNat_line line) slot s

/-- Settles O22, in the same way. -/
theorem noteOffEncoding : Obligations.NoteOffEncoding := by
  intro s line slot
  rw [← noteByte_ofNat_line, ← velocityByte_ofNat_line]
  exact exec_noteMessage false (lineOk_ofNat_line line) slot s

/-- Settles O23: the selector's row, and the two forms of a Control-Change, told apart by `CC_LEN`. -/
theorem controlChangeEncoding : Obligations.ControlChangeEncoding := by
  intro s c
  obtain ⟨-, -, hstatus⟩ := statusByte_bits c
  rw [hstatus]
  refine ⟨decode_control c, fun hlen => ?two, fun hlen => ?three⟩
  case two =>
    rcases s.loadCc_cases (c.setWidth 8) with ⟨-, e⟩ | ⟨hlen', -⟩
    · exact congrArg _ e
    · omega
  case three =>
    rcases s.loadCc_cases (c.setWidth 8) with ⟨hlen', -⟩ | ⟨-, e⟩
    · omega
    · exact congrArg _ e

/-- Settles O24: with the octave in bounds, the sum that either Note message carries fits a data byte, and so does the table's
velocity. -/
theorem noteDataBytesAreExactAndLegal : Obligations.NoteDataBytesAreExactAndLegal := by
  intro s line slot ⟨_, hmax⟩
  have hline : (BitVec.ofNat 4 line : Line).toNat ≤ 12 := lineOk_iff.mp (lineOk_ofNat_line line)
  obtain ⟨hnote, hnote_le⟩ := noteByte_toNat s.cfg hline hmax
  obtain ⟨hvel, hvel_le⟩ := velocityByte_toNat s.cfg hline
  rw [noteOffsetAt_ofNat_line] at hnote
  rw [getD_toList_ofNat_line] at hvel
  have hok := lineOk_ofNat_line line
  exact ⟨_, _, exec_noteMessage true hok slot s, exec_noteMessage false hok slot s, hnote, rfl, hnote_le, hvel, rfl, hvel_le⟩

end Sys2Proof.Machine
end

section
/-! SUPPORT. TX_BYTE in one cycle (spec/42_midi_encoder.md R147): what it offers, and its effect for the indices of the buffer's
three bytes. -/

namespace Sys2Proof.Machine

variable {s : State}

/-- At the indices 0..2 the byte offered is the buffer's (R38). -/
theorem State.buffer_getElem? (h : s.txIdx.toNat ≤ 2) :
    [s.msgB0, s.msgB1, s.msgB2][s.txIdx.toNat]? = some s.currentByte := by
  rw [State.currentByte]
  interval_cases s.txIdx.toNat <;> rfl

/-- The last byte's index, in exact integers (R9, R147; log 18). -/
theorem State.atLastByte_iff_succ : s.atLastByte = true ↔ s.txIdx.toNat + 1 = s.msgLen.toNat := by
  simp [State.atLastByte]

/-- `tx_idx + 1` for the indices that 2 bits can follow (R147). -/
theorem State.txIdxNext_eq (h : s.txIdx.toNat ≤ 2) : s.txIdxNext = BitVec.ofNat 2 (s.txIdx.toNat + 1) := by
  have hne : s.txIdx ≠ 3#2 := by bv_omega
  rw [State.txIdxNext, if_neg hne]
  bv_omega

/-- At those indices TX_BYTE reads no free value. -/
theorem State.freeIdxAfter_txIdx (h : s.txIdx.toNat ≤ 2) : s.freeIdxAfter (s.txIdx == 3#2) = s.freeIdx := by
  have hne : s.txIdx ≠ 3#2 := by bv_omega
  simp [State.freeIdxAfter, hne]

/-- TransmitterStall (R149, R203): without `tx_ready` TX_BYTE holds. -/
theorem exec_txByte_of_stall (hready : s.inputs.txReady = false) : exec .txByte s = .next { s with resValid := false } := by
  rcases s.execTxByte_cases with ⟨-, e⟩ | ⟨hready', -⟩ | ⟨hready', -⟩
  · exact e
  all_goals simp [hready] at hready'

/-- The last byte's acceptance ends the message (R147). -/
theorem exec_txByte_of_last (hready : s.inputs.txReady = true) (hlast : s.txIdx.toNat + 1 = s.msgLen.toNat) :
    exec .txByte s = .next { s with txIdx := 0#2, st := s.txRet, resValid := false } := by
  rcases s.execTxByte_cases with ⟨hready', -⟩ | ⟨-, -, e⟩ | ⟨-, hmore, -⟩
  · simp [hready] at hready'
  · exact e
  · simp [State.atLastByte_iff_succ.mpr hlast] at hmore

/-- Any other byte's acceptance advances the index (R147). -/
theorem exec_txByte_of_more (hidx : s.txIdx.toNat ≤ 2) (hready : s.inputs.txReady = true)
    (hmore : s.txIdx.toNat + 1 ≠ s.msgLen.toNat) :
    exec .txByte s = .next { s with txIdx := BitVec.ofNat 2 (s.txIdx.toNat + 1), resValid := false } := by
  rcases s.execTxByte_cases with ⟨hready', -⟩ | ⟨-, hlast, -⟩ | ⟨-, -, e⟩
  · simp [hready] at hready'
  · exact absurd (State.atLastByte_iff_succ.mp hlast) hmore
  · rw [State.txIdxNext_eq hidx, State.freeIdxAfter_txIdx hidx] at e
    exact e

/-- Settles O26: the outputs in `S_TX`, and the three effects. -/
theorem txByteResult : Obligations.TxByteResult := by
  refine ⟨fun _ _ => rfl, fun s hidx => ⟨fun hst => ?outputs, exec_txByte_of_last, exec_txByte_of_more hidx,
    exec_txByte_of_stall⟩⟩
  have hvalid : s.outputs.txValid = true := beq_iff_eq.mpr hst
  have hdata : s.outputs.txData = s.currentByte := if_pos hst
  have hlast : s.outputs.txLast = s.atLastByte := by simp [State.outputs, sTx, hst]
  rw [hdata, hlast]
  exact ⟨hvalid, State.buffer_getElem? hidx, State.atLastByte_iff_succ⟩

end Sys2Proof.Machine
end

section
/-! SUPPORT. Runs of given inputs (spec/10_state.md R22; log 1): the first cycle of a run, and what it leaves of the inputs. -/

namespace Sys2Proof.Machine

variable {s t u : State} {n : Nat}

/-! ## Peeling the first cycle off a run -/

theorem core_run_succ (M : Host.Core) {x y : M.State} (h : M.step x = .next y) (n : Nat) : M.run (n + 1) x = M.run n y := by
  rw [Host.Core.run, h]

theorem State.after_succ (h : step s = .next t) (n : Nat) : s.after (n + 1) = t.after n :=
  core_run_succ Sys2Proof.core h n

theorem State.acceptedIn_succ (h : step s = .next t) (n : Nat) :
    s.acceptedIn (n + 1) = s.accepted.toList ++ t.acceptedIn n := by
  simp only [State.acceptedIn, h]

/-! ## The given inputs move up by one cycle -/

/-- The pins, with the model's bookkeeping of them, are all that the end of a cycle changes (log 1, 2). -/
theorem State.nextCycle_pins (s : State) :
    ∃ i l k, s.nextCycle = { s with inputs := i, stim := l, freeIdx := k } := by
  rcases s.nextCycle_cases with ⟨i, rest, -, e⟩ | ⟨-, e⟩
  · exact ⟨i, rest, _, e⟩
  · exact ⟨_, s.stim, _, e⟩

/-- After a cycle the given inputs are those that were given for later cycles. -/
theorem State.nextCycle_upcoming_take (h : n ≤ s.stim.length) : s.nextCycle.upcoming.take n = s.stim.take n := by
  rcases s.nextCycle_cases with ⟨i, rest, hs, e⟩ | ⟨hs, -⟩
  · rw [e, hs]; rfl
  · obtain rfl : n = 0 := by simpa [hs] using h
    rfl

/-- An operation does not write the given inputs (R41). -/
theorem State.Effect.stim_eq (h : s.Effect u) : u.stim = s.stim := by
  cases h
  case scanEdge line st pend low => rw [State.scanEvent_frame]; rfl
  case chselHeld => simp
  all_goals rfl

theorem step_upcoming_take (h : step s = .next t) (hn : n ≤ s.stim.length) : t.upcoming.take n = s.stim.take n := by
  rcases step_effect h with ⟨-, rfl⟩ | ⟨-, u, hu, rfl⟩
  · exact State.nextCycle_upcoming_take (s := s.resetRegisters) hn
  · rw [← hu.stim_eq] at hn ⊢
    exact State.nextCycle_upcoming_take hn

theorem State.givenFor.length_stim {P : Inputs → Prop} (g : s.givenFor (n + 1) P) : n ≤ s.stim.length :=
  Nat.le_of_succ_le_succ g.1

theorem State.givenFor.head {P : Inputs → Prop} (g : s.givenFor (n + 1) P) : P s.inputs :=
  g.2 _ List.mem_cons_self

/-- The cycles after a first one are given from the state it leads to. -/
theorem State.givenFor.tail {P : Inputs → Prop} (g : s.givenFor (n + 1) P) (h : step s = .next t) : t.givenFor n P := by
  have htake := step_upcoming_take h g.length_stim
  refine ⟨?given, fun i hi => g.2 i (List.mem_cons_of_mem _ (htake ▸ hi))⟩
  have hlen := congrArg List.length htake
  have hstim := g.length_stim
  rw [List.length_take, List.length_take] at hlen
  omega

end Sys2Proof.Machine
end

section
/-! SUPPORT. A message on its way out (spec/42_midi_encoder.md R147 to R149, R203): what one cycle of `S_TX` does, and by induction
over the cycles, the bytes that leave, the state a message ends in, and the state a stall holds. -/

namespace Sys2Proof.Machine

/-! ## One cycle of S_TX -/

section
variable {s t : State} {n : Nat}

theorem fetch_of_tx (hst : s.st = sTx) : fetch s = .ok .txByte := by
  simp [fetch, State.selector, decode, decodeState, hst]

/-- A cycle of `S_TX` is TX_BYTE; then only the pins move on. -/
theorem step_of_txByte (hst : s.st = sTx) (hrst : s.inputs.rst = false) (h : exec .txByte s = .next t) :
    ∃ i l k, step s = .next { t with inputs := i, stim := l, freeIdx := k } := by
  obtain ⟨i, l, k, e⟩ := t.nextCycle_pins
  refine ⟨i, l, k, ?_⟩
  rw [step_of_fetch hrst (fetch_of_tx hst), h, onNext, e]

/-- In `S_TX` without `rst`, with the index inside the message, the message's byte at the index is accepted if the transmitter is
ready, and none otherwise (R66, R147). -/
theorem State.accepted_of_tx (hst : s.st = sTx) (hrst : s.inputs.rst = false) (hidx : s.txIdx.toNat < s.msgLen.toNat) :
    s.accepted.toList = (s.message.drop s.txIdx.toNat).take s.inputs.txReady.toNat := by
  rw [List.drop_eq_getElem?_toList_append, State.message_getElem? hidx]
  cases hready : s.inputs.txReady <;> simp [State.accepted, State.outputs, hst, hrst, hready]

theorem State.accepted_of_notReady (h : s.inputs.txReady = false) : s.accepted = none := by
  simp [State.accepted, h]

/-- A stalled cycle clears the result flag, and then only the pins move on (R149, R203). -/
theorem step_of_stall (hst : s.st = sTx) (hrst : s.inputs.rst = false) (hready : s.inputs.txReady = false) :
    ∃ i l k, step s = .next { s with resValid := false, inputs := i, stim := l, freeIdx := k } :=
  step_of_txByte hst hrst (exec_txByte_of_stall hready)

/-- The acceptance of the last byte returns to the caller (R147). -/
theorem step_of_lastByte (hst : s.st = sTx) (hrst : s.inputs.rst = false) (hready : s.inputs.txReady = true)
    (hlast : s.txIdx.toNat + 1 = s.msgLen.toNat) :
    ∃ i l k, step s = .next
      { s with txIdx := 0#2, st := s.txRet, resValid := false, inputs := i, stim := l, freeIdx := k } :=
  step_of_txByte hst hrst (exec_txByte_of_last hready hlast)

/-- The acceptance of an earlier byte moves the index to the next one (R147). -/
theorem step_of_earlierByte (hst : s.st = sTx) (hrst : s.inputs.rst = false) (hready : s.inputs.txReady = true)
    (hmore : s.txIdx.toNat + 1 < s.msgLen.toNat) :
    ∃ x i l k, x.toNat = s.txIdx.toNat + 1 ∧
      step s = .next { s with txIdx := x, resValid := false, inputs := i, stim := l, freeIdx := k } := by
  have hidx : s.txIdx.toNat ≤ 2 := by have := s.msgLen.isLt; omega
  obtain ⟨i, l, k, e⟩ := step_of_txByte hst hrst (exec_txByte_of_more hidx hready hmore.ne)
  refine ⟨_, i, l, k, ?_, e⟩
  rw [BitVec.toNat_ofNat]
  omega

/-- Any cycle but the one that ends the message stays in `S_TX`, with the index moved on by the byte accepted, if one was. -/
theorem step_of_unfinished (hst : s.st = sTx) (hrst : s.inputs.rst = false)
    (hmore : s.txIdx.toNat + s.inputs.txReady.toNat < s.msgLen.toNat) :
    ∃ x i l k, x.toNat = s.txIdx.toNat + s.inputs.txReady.toNat ∧
      step s = .next { s with txIdx := x, resValid := false, inputs := i, stim := l, freeIdx := k } := by
  cases hready : s.inputs.txReady with
  | false =>
    obtain ⟨i, l, k, h⟩ := step_of_stall hst hrst hready
    exact ⟨s.txIdx, i, l, k, rfl, h⟩
  | true => exact step_of_earlierByte hst hrst hready (by rwa [hready] at hmore)

/-! ## Counting the ready cycles -/

/-- The number of the next `n` given cycles in which `tx_ready` is 1: as many bytes of a message leave in them (R148). -/
def State.readyIn (s : State) (n : Nat) : Nat := (s.upcoming.take n).countP (·.txReady)

theorem State.readyIn_succ (hn : n ≤ s.stim.length) (h : step s = .next t) :
    s.readyIn (n + 1) = t.readyIn n + s.inputs.txReady.toNat := by
  rw [State.readyIn, State.readyIn, step_upcoming_take h hn, State.upcoming, List.take_succ_cons, List.countP_cons]
  cases s.inputs.txReady <;> rfl

theorem State.ready_le_readyIn (s : State) (n : Nat) : s.inputs.txReady.toNat ≤ s.readyIn (n + 1) := by
  rw [State.readyIn, State.upcoming, List.take_succ_cons, List.countP_cons]
  cases s.inputs.txReady <;> simp

/-- A count of 0 says that the transmitter is ready in none of the cycles. -/
theorem State.givenFor.notReady {P : Inputs → Prop} (g : s.givenFor n P) (h : s.readyIn n = 0) :
    s.givenFor n (fun i => i.txReady = false) :=
  ⟨g.1, fun i hi => by simpa using List.countP_eq_zero.mp h i hi⟩

end

/-- Whatever the machine does, without `tx_ready` no byte is accepted (R66). -/
theorem State.acceptedIn_of_notReady {n : Nat} {s : State} (g : s.givenFor n (fun i => i.txReady = false)) :
    s.acceptedIn n = [] := by
  induction n generalizing s with
  | zero => rfl
  | succ n ih =>
    cases h : step s with
    | next t => rw [State.acceptedIn_succ h, State.accepted_of_notReady g.head, ih (g.tail h)]; rfl
    | fault r => simp [State.acceptedIn, h]
    | refused r => simp [State.acceptedIn, h]

/-! ## The bytes that leave -/

/-- R148: from any index of a message, the bytes accepted are the message's next bytes, one for each ready cycle. A cycle accepts
its own byte or none, and the rest is the same claim at the index it leaves; after the last byte no ready cycle is left. -/
theorem State.acceptedIn_of_tx {n : Nat} {s : State} (g : s.givenFor n (fun i => i.rst = false)) (hst : s.st = sTx)
    (hidx : s.txIdx.toNat < s.msgLen.toNat) (hcount : s.txIdx.toNat + s.readyIn n ≤ s.msgLen.toNat) :
    s.acceptedIn n = (s.message.drop s.txIdx.toNat).take (s.readyIn n) := by
  induction n generalizing s with
  | zero => rfl
  | succ n ih =>
    have hbyte := State.accepted_of_tx hst g.head hidx
    by_cases hmore : s.txIdx.toNat + s.inputs.txReady.toNat < s.msgLen.toNat
    · obtain ⟨x, i, l, k, hx, h⟩ := step_of_unfinished hst g.head hmore
      have hready_n := State.readyIn_succ g.length_stim h
      have hrest := ih (g.tail h) hst (by dsimp only; omega) (by dsimp only; omega)
      rw [State.acceptedIn_succ h, hbyte, hready_n, Nat.add_comm, List.take_add, List.drop_drop, ← hx]
      exact congrArg _ hrest
    · have hready : s.inputs.txReady = true := by
        by_contra hstall
        rw [Bool.eq_false_iff.mpr hstall] at hmore
        exact hmore hidx
      rw [hready, Bool.toNat_true] at hbyte hmore
      obtain ⟨i, l, k, h⟩ := step_of_lastByte hst g.head hready (by omega)
      have hready_n := State.readyIn_succ g.length_stim h
      rw [hready, Bool.toNat_true] at hready_n
      have hnone := (g.tail h).notReady (by omega)
      have hone : s.readyIn (n + 1) = 1 := by omega
      rw [State.acceptedIn_succ h, hbyte, State.acceptedIn_of_notReady hnone, List.append_nil, hone]

/-- Settles O27: the message's bytes from its first on. -/
theorem messageLeavesVerbatimInOrder : Obligations.MessageLeavesVerbatimInOrder := by
  intro s n hst hidx hlen g hcount
  have hpos : s.txIdx.toNat < s.msgLen.toNat := by rcases hlen with e | e <;> rw [hidx, e] <;> decide
  have h := State.acceptedIn_of_tx g hst hpos (by rw [hidx]; simpa [State.readyIn] using hcount)
  rw [hidx] at h
  exact h

/-! ## The end of a message -/

/-- R147, R148: from any index of a message, the cycle in which its last byte is accepted leaves for `tx_ret`. -/
theorem State.after_of_messageEnd {n : Nat} {s : State} (g : s.givenFor (n + 1) (fun i => i.rst = false)) (hst : s.st = sTx)
    (hcount : s.txIdx.toNat + s.readyIn n + 1 = s.msgLen.toNat) (hend : s.readyIn (n + 1) = s.readyIn n + 1) :
    ∃ i l k, s.after (n + 1) = .next
      { s with txIdx := 0#2, st := s.txRet, resValid := false, inputs := i, stim := l, freeIdx := k } := by
  induction n generalizing s with
  | zero =>
    have hready : s.inputs.txReady = true := by simpa [State.readyIn, State.upcoming] using hend
    obtain ⟨i, l, k, h⟩ := step_of_lastByte hst g.head hready (by simpa [State.readyIn] using hcount)
    exact ⟨i, l, k, State.after_succ h 0⟩
  | succ n ih =>
    have hready_le := s.ready_le_readyIn n
    obtain ⟨x, i, l, k, hx, h⟩ := step_of_unfinished hst g.head (by omega)
    have hready_n := State.readyIn_succ (n := n) (by have := g.length_stim; omega) h
    have hready_n1 := State.readyIn_succ g.length_stim h
    obtain ⟨i', l', k', e⟩ := ih (g.tail h) hst (by dsimp only; omega) (by omega)
    exact ⟨i', l', k', (State.after_succ h _).trans e⟩

/-- Settles O28: the message is at its first byte, so what its end leaves is `tx_ret` in `st` and the flag cleared. -/
theorem messageEndReturnsToCaller : Obligations.MessageEndReturnsToCaller := by
  intro s n hst hidx _ g hcount hend
  have hcount' : s.txIdx.toNat + s.readyIn n + 1 = s.msgLen.toNat := by
    rw [hidx, ← hcount]
    exact congrArg (· + 1) (Nat.zero_add _)
  obtain ⟨i, l, k, h⟩ := State.after_of_messageEnd g hst hcount' (hend.trans hcount.symm)
  rw [← hidx] at h
  exact ⟨_, h, rfl⟩

/-! ## A stall -/

/-- R149, R203: stalled cycles write the result flag and the pins only. -/
theorem State.after_of_stall {n : Nat} {s : State} (g : s.givenFor n (fun i => i.rst = false ∧ i.txReady = false))
    (hst : s.st = sTx) :
    ∃ v i l k, s.after n = .next { s with resValid := v, inputs := i, stim := l, freeIdx := k } := by
  induction n generalizing s with
  | zero => exact ⟨_, _, _, _, rfl⟩
  | succ n ih =>
    obtain ⟨hrst, hready⟩ := g.head
    obtain ⟨i, l, k, h⟩ := step_of_stall hst hrst hready
    obtain ⟨v', i', l', k', e⟩ := ih (g.tail h) hst
    exact ⟨v', i', l', k', (State.after_succ h n).trans e⟩

/-- Settles O29: the stall holds the state, and without a ready cycle no byte is accepted. -/
theorem transmitterStallHoldsTheState : Obligations.TransmitterStallHoldsTheState := by
  intro s n hst g
  obtain ⟨v, i, l, k, h⟩ := State.after_of_stall g hst
  exact ⟨_, h, State.acceptedIn_of_notReady ⟨g.1, fun i hi => (g.2 i hi).2⟩, rfl⟩

end Sys2Proof.Machine
end

section
/-! SUPPORT. The Mode State Machine's operations in one cycle (spec/43_mode_fsm.md R161 to R170): the values that the rules state,
and where they state none, the free values that the operations run on with (log 14 to 17). -/

namespace Sys2Proof.Machine

variable {s : State}

/-! ## The overlay's entry, its loop and its exit (R161, R165, R166) -/

/-- Settles O31: the selector's row, and the two steps of the transition, the registers and the move, in one record. -/
theorem overlayEnterResult : Obligations.OverlayEnterResult :=
  ⟨fun _ => rfl, fun _ => rfl⟩

/-- Settles O34, in the same way. -/
theorem overlayLoopResult : Obligations.OverlayLoopResult :=
  ⟨fun _ => rfl, fun _ => rfl⟩

/-- A 2-bit register one further on is its number's successor mod 4 (R9, R166). -/
theorem add_one_eq_ofNat_mod (x : BitVec 2) : x + 1#2 = BitVec.ofNat 2 ((x.toNat + 1) % 4) := by
  apply BitVec.eq_of_toNat_eq
  simp [BitVec.toNat_add]

/-- Settles O35: the 2-bit sum is the preset mod 4. -/
theorem overlayExitResult : Obligations.OverlayExitResult := by
  refine ⟨fun _ => rfl, fun s => ?_⟩
  rw [← add_one_eq_ofNat_mod]
  rfl

/-! ## The flashes (R162, R163) -/

theorem exec_flashOn_of_zero (h : s.flashCnt = 0#2) : exec .flashOn s = .next { s with st := sOvlTop, resValid := false } :=
  if_pos h

theorem exec_flashOn_of_ne_zero (h : s.flashCnt ≠ 0#2) :
    exec .flashOn s = .next { s with
      led := true, waitCnt := delay s.cfg.params.flashOnMs, waitRet := sFlashGap, st := sWait, resValid := false } :=
  if_neg h

/-- Settles O32: no flash left, or one more. -/
theorem flashOnResult : Obligations.FlashOnResult :=
  ⟨fun _ _ => rfl, fun _ => ⟨exec_flashOn_of_zero, exec_flashOn_of_ne_zero⟩⟩

/-- `flash_cnt - 1` for the counts that the rule meets (R163). -/
theorem State.flashCntNext_eq (h : 1 ≤ s.flashCnt.toNat) : s.flashCntNext = BitVec.ofNat 2 (s.flashCnt.toNat - 1) := by
  have hne : s.flashCnt ≠ 0#2 := by bv_omega
  rw [State.flashCntNext, if_neg hne]
  bv_omega

/-- At those counts FLASH_OFF reads no free value. -/
theorem State.freeIdxAfter_flashCnt (h : 1 ≤ s.flashCnt.toNat) : s.freeIdxAfter (s.flashCnt == 0#2) = s.freeIdx := by
  have hne : s.flashCnt ≠ 0#2 := by bv_omega
  simp [State.freeIdxAfter, hne]

/-- FLASH_OFF for every count, the one whose predecessor is a free value included (R163; log 14). -/
theorem exec_flashOff (s : State) :
    exec .flashOff s = .next { s with
      led := false, flashCnt := s.flashCntNext, freeIdx := s.freeIdxAfter (s.flashCnt == 0#2)
      waitCnt := delay s.cfg.params.flashOffMs, waitRet := sFlash, st := sWait, resValid := false } :=
  rfl

/-- FLASH_OFF where the rule says it is entered (R163). -/
theorem exec_flashOff_of_pos (h : 1 ≤ s.flashCnt.toNat) :
    exec .flashOff s = .next { s with
      led := false, flashCnt := BitVec.ofNat 2 (s.flashCnt.toNat - 1)
      waitCnt := delay s.cfg.params.flashOffMs, waitRet := sFlash, st := sWait, resValid := false } := by
  rw [exec_flashOff, State.flashCntNext_eq h, State.freeIdxAfter_flashCnt h]

/-- Settles O33. -/
theorem flashOffResult : Obligations.FlashOffResult :=
  ⟨fun _ _ => rfl, fun _ => exec_flashOff_of_pos⟩

/-! ## The channel-select lines (R167, R168) -/

/-- `ch_idx + 1` for every index: a free value where 3 bits do not hold the number (R9, R35; log 16). -/
theorem State.chIdxNext_eq_ite (s : State) :
    s.chIdxNext = if s.chIdx = 7#3 then Config.freeChIdx s.freeIdx else BitVec.ofNat 3 (s.chIdx.toNat + 1) := by
  have hsucc : s.chIdx + 1#3 = BitVec.ofNat 3 (s.chIdx.toNat + 1) := by bv_omega
  rw [State.chIdxNext, hsucc]

theorem State.chIdxNext_eq (h : s.chIdx.toNat ≤ 6) : s.chIdxNext = BitVec.ofNat 3 (s.chIdx.toNat + 1) := by
  rw [State.chIdxNext_eq_ite, if_neg (by bv_omega)]

/-- CHSEL_REPEAT for every index, the one whose successor is a free value included (R168; log 16). -/
theorem exec_chselRepeat (s : State) :
    exec .chselRepeat s = .next { s with
      chIdx := s.chIdxNext, freeIdx := s.freeIdxAfter (s.chIdx == 7#3)
      waitCnt := delay s.cfg.params.chRepeatMs, waitRet := sOvlCh, st := sWait, resValid := false } :=
  rfl

/-- Settles O37: no free value is read up to index 6. -/
theorem chselRepeatResult : Obligations.ChselRepeatResult := by
  refine ⟨fun _ _ => rfl, fun s h => ?_⟩
  have hne : (s.chIdx == 7#3) = false := by rw [beq_eq_false_iff_ne]; bv_omega
  rw [exec_chselRepeat, State.chIdxNext_eq h, hne]
  rfl

/-- The level of the line under test, for the four entries of the table (R61, R167). -/
theorem State.chselLevel_of_channel {c : Fin 4} (h : s.chIdx = BitVec.ofNat 3 c) :
    s.chselLevel = s.inputs.keyIn.getLsbD s.cfg.params.chselLine[c] := by
  have hc : s.chIdx.toNat = c := by rw [h, BitVec.toNat_ofNat]; omega
  rw [State.chselLevel, hc, if_pos c.isLt, List.getD_eq_getElem _ _ (by simp)]
  exact congrArg _ (Vector.getElem_toList _)

/-- A channel 0..3 is the same byte, read from the index register or as the encoder's operand (R145, R167). -/
theorem channel_setWidth (c : Fin 4) : (BitVec.ofNat 3 c).setWidth 8 = (BitVec.ofNat 2 c : SlotIx).setWidth 8 := by
  revert c; decide

/-- Loading a Control-Change writes the four message registers, each in the form that `CC_LEN` gives it (R145). -/
theorem State.loadCc_eq (s : State) (c : Byte) :
    s.loadCc c = { s with
      msgLen := if s.cfg.params.ccLen = 2 then 2#2 else 3#2
      msgB0 := 0xB0#8 ||| c
      msgB1 := if s.cfg.params.ccLen = 2 then s.preset.setWidth 8 else BitVec.ofNat 8 s.cfg.params.ccCtrl
      msgB2 := if s.cfg.params.ccLen = 2 then 0#8 else s.preset.setWidth 8 } := by
  unfold State.loadCc
  split <;> rfl

theorem exec_chselTest_of_done (h : s.chIdx = 4#3) : exec .chselTest s = .next { s with st := sOvlOctdn, resValid := false } :=
  if_pos h

/-- CHSEL_TEST with the line held, the lines that the table does not have included (R167; log 15). -/
theorem exec_chselTest_of_held (hidx : s.chIdx ≠ 4#3) (level : s.chselLevel = true) :
    exec .chselTest s = .next { s.loadCc (s.chIdx.setWidth 8) with
      txIdx := 0#2, txRet := sOvlChw, st := sTx, resValid := false
      freeIdx := s.freeIdxAfter (decide (4 < s.chIdx.toNat)) } := by
  simp only [exec, execChselTest, if_neg hidx, if_pos level, State.loadCc_eq]
  rfl

/-- CHSEL_TEST with the line not held (R167; log 15, 16). -/
theorem exec_chselTest_of_released (hidx : s.chIdx ≠ 4#3) (level : s.chselLevel = false) :
    exec .chselTest s = .next { s with
      chIdx := s.chIdxNext, resValid := false, freeIdx := s.freeIdxAfter (decide (4 < s.chIdx.toNat)) } := by
  simp only [exec, execChselTest, if_neg hidx, level, Bool.false_eq_true, if_false]
  rfl

/-- Settles O36: at a channel 0..3 no free value is read, and ENC_CC of the channel loads the buffer. -/
theorem chselTestResult : Obligations.ChselTestResult := by
  refine ⟨fun _ _ => rfl, fun s => ⟨exec_chselTest_of_done, fun c hc => ?_⟩⟩
  have hnat : s.chIdx.toNat = c := by rw [hc, BitVec.toNat_ofNat]; omega
  have hidx : s.chIdx ≠ 4#3 := fun e => by simp [e] at hnat; omega
  have hfree : s.freeIdxAfter (decide (4 < s.chIdx.toNat)) = s.freeIdx := by
    rw [decide_eq_false (by omega)]; rfl
  rw [← State.chselLevel_of_channel hc]
  refine ⟨fun held => ⟨_, rfl, ?held⟩, fun released => ?released⟩
  case held =>
    rw [exec_chselTest_of_held hidx held, hfree, hc, channel_setWidth, ← s.loadCc_freeIdx]
  case released =>
    rw [exec_chselTest_of_released hidx released, hfree, State.chIdxNext_eq (by omega), hnat]

/-! ## The octave (R169, R170) -/

/-- OCT_DOWN's clamp, in exact integers (R9, R169). -/
theorem octave_sub_one (lo : Nat) (x : BitVec 4) :
    (if lo < x.toNat then x - 1#4 else x) = if lo < x.toNat then BitVec.ofNat 4 (x.toNat - 1) else x := by
  split <;> bv_omega

/-- OCT_UP's sum, in exact integers (R9, R170). -/
theorem octave_add_one (x : BitVec 4) : x + 1#4 = BitVec.ofNat 4 (x.toNat + 1) := by
  bv_omega

/-- Settles O38: the line held, or not. -/
theorem octDownResult : Obligations.OctDownResult := by
  refine ⟨fun _ _ => rfl, fun s => ⟨fun held => ?_, fun released => ?_⟩⟩
  · rw [← octave_sub_one]
    exact if_pos held
  · exact if_neg (Bool.eq_false_iff.mp released)

/-- Settles O39, in the same way. -/
theorem octUpResult : Obligations.OctUpResult := by
  refine ⟨fun _ _ => rfl, fun s => ⟨fun held => ?_, fun released => ?_⟩⟩
  · rw [← octave_add_one]
    exact if_pos held
  · exact if_neg (Bool.eq_false_iff.mp released)

/-! ## Where the rules state no value (log 14 to 17) -/

/-- With `tx_idx` at 3 a ready cycle is not the last byte's, since no length is 4, and the index takes a free value (R147;
log 17). -/
theorem exec_txByte_of_three (hidx : s.txIdx = 3#2) (hready : s.inputs.txReady = true) :
    exec .txByte s = .next { s with txIdx := s.txIdxNext, freeIdx := s.freeIdx + 1, resValid := false } := by
  rcases s.execTxByte_cases with ⟨hready', -⟩ | ⟨-, hlast, -⟩ | ⟨-, -, e⟩
  · simp [hready] at hready'
  · have hlen := State.atLastByte_iff_succ.mp hlast
    simp only [hidx, BitVec.toNat_ofNat] at hlen
    omega
  · rw [hidx] at e
    exact e

/-- Settles O47: the value that no rule states is the model's own, and reading it takes up one index. -/
theorem unstatedValuesStayFreeAndRunOn : Obligations.UnstatedValuesStayFreeAndRunOn := by
  refine fun s => ⟨fun h => ⟨s.flashCntNext, ?flash⟩, fun h => ⟨s.chIdxNext, ?next⟩,
    fun h => ⟨s.chselLevel, Config.freeChIdx s.freeIdx, ?test⟩, fun hidx hready => ⟨s.txIdxNext, exec_txByte_of_three hidx hready⟩⟩
  case flash =>
    rw [exec_flashOff, h]
    rfl
  case next =>
    rw [exec_chselRepeat, h]
    rfl
  case test =>
    have hidx : s.chIdx ≠ 4#3 := by bv_omega
    have hfree : s.freeIdxAfter (decide (4 < s.chIdx.toNat)) = s.freeIdx + 1 := by
      rw [decide_eq_true (by omega)]; rfl
    cases level : s.chselLevel with
    | true => rw [exec_chselTest_of_held hidx level, hfree, State.loadCc_eq]; rfl
    | false => rw [exec_chselTest_of_released hidx level, hfree, State.chIdxNext_eq_ite]; rfl

end Sys2Proof.Machine
end

section
/-! SUPPORT. What every step keeps of the mode (spec/43_mode_fsm.md R171 to R173): the octave's bounds, the preset, and the scanner's
registers in the overlay. -/

namespace Sys2Proof.Machine

variable {s t u : State}

/-- Settles O40: reset loads an octave in bounds, the clamps keep it there, and the register's own lemma names its writers. -/
theorem octaveStaysInBounds : Obligations.OctaveStaysInBounds := by
  have hreset (c i l k) : (State.resetWith c i l k).octaveInBounds := by
    obtain ⟨-, -, hoct, -⟩ := State.resetWith_legal c i l k
    exact hoct
  refine ⟨hreset, fun s t h => ?step⟩
  rcases step_effect h with ⟨hrst, rfl⟩ | ⟨-, u, hu, rfl⟩
  · simp only [State.octaveInBounds, State.nextCycle_cfg, State.nextCycle_octave]
    exact ⟨fun _ => hreset .., fun _ => .inl hrst⟩
  · simp only [State.octaveInBounds, State.nextCycle_cfg, State.nextCycle_octave]
    exact ⟨hu.octaveInBounds, fun w => .inr (hu.of_octave_ne w)⟩

/-- R172: an effect advances the preset in OVERLAY_EXIT's cycle, and keeps it in any other. -/
theorem State.Effect.preset_eq (h : s.Effect u) :
    u.preset = if s.st = sOvlTop ∧ s.inputs.btnIn = false then s.preset + 1#2 else s.preset := by
  by_cases hexit : s.st = sOvlTop ∧ s.inputs.btnIn = false
  · obtain ⟨hst, hbtn⟩ := hexit
    rw [if_pos ⟨hst, hbtn⟩]
    cases h
    case overlayExit => rfl
    all_goals simp_all [seqCode_values]
  · rw [if_neg hexit]
    exact not_imp_comm.mp h.of_preset_ne hexit

/-- Settles O41: the three branches in order. -/
theorem presetCyclesOnOverlayExitOnly : Obligations.PresetCyclesOnOverlayExitOnly := by
  intro s t h
  rcases step_effect h with ⟨hrst, rfl⟩ | ⟨hrst, u, hu, rfl⟩
  · rw [hrst, if_pos rfl, State.nextCycle_preset]
    rfl
  · rw [hrst, if_neg Bool.false_ne_true, State.nextCycle_preset, hu.preset_eq, apply_ite BitVec.toNat, BitVec.toNat_add]
    rfl

/-! ## The overlay and its settle wait (R173, R207) -/

/-- Neither the overlay nor its settle wait has a state of the scanner's: `S_IDLE`, `S_SCAN`. -/
theorem State.not_scanner_of_overlay (h : s.inOverlay ∨ s.inSettle) : s.st ≠ sIdle ∧ s.st ≠ sScan := by
  rcases h with (⟨hlow, -⟩ | ⟨e, -⟩ | ⟨e, -⟩) | ⟨e, -⟩
  · exact ⟨fun e => by simp [e] at hlow, fun e => by simp [e] at hlow⟩
  all_goals rw [e]; decide

/-- The scanner's operations are selected in its two states only (R92). -/
theorem fetch_scanner {i : Instr} (h : fetch s = .ok i) (hi : i ∈ [Instr.pollSample, .scanEdge, .scanEnd]) :
    s.st = sIdle ∨ s.st = sScan := by
  simp only [List.mem_cons, List.not_mem_nil, or_false] at hi
  have hsel := fetch_cases h
  rcases hi with rfl | rfl | rfl <;> simp only [reduceCtorEq, and_false, false_or, or_false, and_true] at hsel
  · exact .inl hsel.1
  · exact .inr hsel.1
  · exact .inr hsel.1

/-- The settle wait goes on, or ends in `S_IDLE` (R166, R208). -/
theorem State.Effect.of_inSettle (h : s.Effect u) (hs : s.inSettle) : u.inSettle ∨ u.st = sIdle := by
  obtain ⟨hst, hret⟩ := hs
  cases h
  case waitEnd => exact .inr hret
  case waitTick => exact .inl ⟨hst, hret⟩
  case waitHold => exact .inl ⟨hst, hret⟩
  all_goals simp_all [seqCode_values]

/-- The overlay is left by OVERLAY_EXIT alone, for the settle wait: `ovl` is 1 exactly in the overlay (R207), and no other effect
takes it back. -/
theorem State.Effect.of_inOverlay (h : s.Effect u) (l : s.legal) (hs : s.inOverlay) : u.inOverlay ∨ u.inSettle := by
  have ⟨_, _, _, _, _, ⟨hovl, _⟩, _, _⟩ := l
  have ⟨_, _, _, _, _, ⟨hovl', _⟩, _, _⟩ := h.legal l
  cases h
  case overlayExit => exact .inr ⟨rfl, rfl⟩
  all_goals exact .inl (hovl'.mp (by simp [hovl.mpr hs]))

/-- Settles O42: the scanner's registers have their writers in the scanner's states, and those are not the overlay's. -/
theorem overlayExcludesNoteScanning : Obligations.OverlayExcludesNoteScanning := by
  intro s t l hs hrst h
  obtain ⟨hidle, hscan⟩ := State.not_scanner_of_overlay hs
  rcases step_effect h with ⟨hrst', -⟩ | ⟨-, u, hu, rfl⟩
  · simp [hrst] at hrst'
  rw [State.nextCycle_pool, State.nextCycle_prev, State.nextCycle_cur, State.nextCycle_pend]
  refine ⟨fun i hi hmem => (fetch_scanner hi hmem).elim hidle hscan, ?pool, ?prev, ?cur, ?pend, ?next⟩
  case pool => exact by_contra fun w => hscan (hu.of_pool_ne w).1
  case prev => exact by_contra fun w => hscan (hu.of_prev_ne w).1
  case cur => exact by_contra fun w => hidle (hu.of_cur_ne w).1
  case pend => exact by_contra fun w => (hu.of_pend_ne w).elim (fun e => hidle e.1) (fun e => hscan e.1)
  case next =>
    simp only [State.inOverlay, State.inSettle, State.nextCycle_st, State.nextCycle_txRet, State.nextCycle_waitRet]
    rcases hs with hs | hs
    · exact (hu.of_inOverlay l hs).imp_right .inl
    · exact .inr (hu.of_inSettle hs)

end Sys2Proof.Machine
end

section
/-! SUPPORT. The flash phase of an overlay entry with a tick in every cycle (spec/43_mode_fsm.md R161 to R164; spec/60_exceptions.md
R208): where the machine stands in each cycle of it, one cycle at a time, and by induction the whole phase. -/

namespace Sys2Proof.Machine

/-! ## One cycle of a given sequencer state -/

section
variable {s t : State} {n m : Nat}

/-- A cycle without reset is its operation's effect; then only the pins move on. -/
theorem step_of_exec {code : SeqCode} {i : Instr} (hrst : s.inputs.rst = false) (hst : s.st = code)
    (hsel : decode (.st4 code s.inputs.btnIn (s.pend != 0#13)) = .ok i) (h : exec i s = .next t) :
    ∃ i l k, step s = .next { t with inputs := i, stim := l, freeIdx := k } := by
  have hfetch : fetch s = .ok i := by rw [fetch, State.selector, hst, hsel]
  obtain ⟨i, l, k, e⟩ := t.nextCycle_pins
  refine ⟨i, l, k, ?_⟩
  rw [step_of_fetch hrst hfetch, h, onNext, e]

/-- A wait with no tick left to count ends (R208). -/
theorem exec_waitTick_of_zero (h : s.waitCnt = 0#16) :
    exec .waitTick s = .next { s with st := s.waitRet, resValid := false } :=
  if_pos h

/-- A wait counts a tick (R208). -/
theorem exec_waitTick_of_tick (h : s.waitCnt ≠ 0#16) (htick : s.inputs.tickMs = true) :
    exec .waitTick s = .next { s with waitCnt := BitVec.ofNat 16 (s.waitCnt.toNat - 1), resValid := false } := by
  have hpred : s.waitCnt - 1#16 = BitVec.ofNat 16 (s.waitCnt.toNat - 1) := by bv_omega
  rcases s.execWaitTick_cases with ⟨h', -⟩ | ⟨-, -, e⟩ | ⟨-, htick', -⟩
  · exact absurd h' h
  · rw [← hpred]; exact e
  · simp [htick] at htick'

/-- A cycle of a wait with a tick: the wait ends, or one tick less is left. -/
theorem step_of_tick (hst : s.st = sWait) (hrst : s.inputs.rst = false) (htick : s.inputs.tickMs = true) :
    ∃ i l k,
      (s.waitCnt.toNat = 0 ∧
        step s = .next { s with st := s.waitRet, resValid := false, inputs := i, stim := l, freeIdx := k }) ∨
      ∃ x, x.toNat + 1 = s.waitCnt.toNat ∧
        step s = .next { s with waitCnt := x, resValid := false, inputs := i, stim := l, freeIdx := k } := by
  by_cases h : s.waitCnt = 0#16
  · obtain ⟨i, l, k, e⟩ := step_of_exec hrst hst rfl (exec_waitTick_of_zero h)
    exact ⟨i, l, k, .inl ⟨by rw [h]; rfl, e⟩⟩
  · obtain ⟨i, l, k, e⟩ := step_of_exec hrst hst rfl (exec_waitTick_of_tick h htick)
    exact ⟨i, l, k, .inr ⟨_, by bv_omega, e⟩⟩

theorem State.givenFor.mono {P : Inputs → Prop} (g : s.givenFor n P) (h : m ≤ n) : s.givenFor m P :=
  ⟨h.trans g.1, fun i hi => g.2 i (List.take_subset_take_left _ h hi)⟩

end

/-! ## The times of an entry (R164) -/

section
variable {s t : State} {j k n : Nat}

/-- The cycles from one flash to the next: two states that start a wait, and two waits, each one cycle longer than its ticks. -/
def State.flashPeriod (s : State) : Nat := s.cfg.params.flashOnMs + s.cfg.params.flashOffMs + 4

/-- The cycle in which an entry from `s` is in `S_OVL_TOP`. -/
def State.flashEnd (s : State) : Nat := 2 + s.preset.toNat * s.flashPeriod

/-- In cycle `k` after an entry from `s` one of the flashes is lit. -/
def State.flashLit (s : State) (k : Nat) : Prop :=
  ∃ j < s.preset.toNat, 2 + j * s.flashPeriod ≤ k ∧ k < 4 + s.cfg.params.flashOnMs + j * s.flashPeriod

theorem State.flashPeriod_mul_le {j' : Nat} (h : j' < j) : j' * s.flashPeriod + s.flashPeriod ≤ j * s.flashPeriod := by
  rw [← Nat.succ_mul]
  exact Nat.mul_le_mul_right _ h

/-- Between flash `j - 1`, if there is one, and flash `j`, if there is one, it is dark. -/
theorem State.not_flashLit (after : j * s.flashPeriod ≤ k + s.cfg.params.flashOffMs)
    (before : j < s.preset.toNat → k < 2 + j * s.flashPeriod) : ¬ s.flashLit k := by
  rintro ⟨j', hj', hlow, hhigh⟩
  have hperiod : s.flashPeriod = s.cfg.params.flashOnMs + s.cfg.params.flashOffMs + 4 := rfl
  rcases lt_trichotomy j' j with h | rfl | h
  · have := s.flashPeriod_mul_le h
    omega
  · have := before hj'
    omega
  · have := s.flashPeriod_mul_le h
    have := before (h.trans hj')
    omega

/-! ## The phase, cycle by cycle -/

/-- What an entry from `s` has set, or leaves as it was, until the flashes are over. -/
def State.KeptByFlashes (s t : State) : Prop :=
  t.cfg = s.cfg ∧ t.ovl = true ∧ t.preset = s.preset ∧ t.octave = s.octave ∧ t.pool = s.pool ∧ t.prev = s.prev

/-- Where the machine stands `k` cycles after an entry from `s`, with `j` flashes over: in `S_FLASH`, in the lit wait, at its end
in `S_FLASH_GAP`, in the dark wait, or in `S_OVL_TOP`. In a wait, the cycles gone and the ticks left have a fixed sum. -/
inductive State.FlashAt (s : State) (k : Nat) (t : State) : Prop
  | due (j : Nat) (st : t.st = sFlash) (led : t.led = false) (cnt : t.flashCnt.toNat + j = s.preset.toNat)
      (time : k = 1 + j * s.flashPeriod)
  | lit (j : Nat) (st : t.st = sWait) (ret : t.waitRet = sFlashGap) (led : t.led = true)
      (cnt : t.flashCnt.toNat + j = s.preset.toNat) (more : 1 ≤ t.flashCnt.toNat)
      (time : k + t.waitCnt.toNat = 2 + s.cfg.params.flashOnMs + j * s.flashPeriod)
      (ticks : t.waitCnt.toNat ≤ s.cfg.params.flashOnMs)
  | gap (j : Nat) (st : t.st = sFlashGap) (led : t.led = true) (cnt : t.flashCnt.toNat + j = s.preset.toNat)
      (more : 1 ≤ t.flashCnt.toNat) (time : k = 3 + s.cfg.params.flashOnMs + j * s.flashPeriod)
  | dark (j : Nat) (st : t.st = sWait) (ret : t.waitRet = sFlash) (led : t.led = false)
      (cnt : t.flashCnt.toNat + j = s.preset.toNat) (time : k + t.waitCnt.toNat = j * s.flashPeriod)
      (ticks : t.waitCnt.toNat ≤ s.cfg.params.flashOffMs)
  | ended (st : t.st = sOvlTop) (led : t.led = false) (cnt : t.flashCnt = 0#2) (time : k = s.flashEnd)

/-- R164: the indicator shows the flashes. -/
theorem State.FlashAt.led_iff (h : s.FlashAt k t) : t.led = true ↔ s.flashLit k := by
  cases h with
  | due j st led cnt time => simpa [led] using s.not_flashLit (j := j) (by omega) (by omega)
  | lit j st ret led cnt more time ticks => simpa [led] using ⟨j, by omega, by omega, by omega⟩
  | gap j st led cnt more time => simpa [led] using ⟨j, by omega, by omega, by omega⟩
  | dark j st ret led cnt time ticks => simpa [led] using s.not_flashLit (j := j) (by omega) (by omega)
  | ended st led cnt time =>
    rw [State.flashEnd] at time
    simpa [led] using s.not_flashLit (j := s.preset.toNat) (by omega) (by omega)

/-- The last cycle of the phase is in `S_OVL_TOP`: any other state has a flash, or its dark time, still to come. -/
theorem State.FlashAt.ended_of_flashEnd (h : s.FlashAt s.flashEnd t) : t.st = sOvlTop ∧ t.led = false ∧ t.flashCnt = 0#2 := by
  have hperiod : s.flashPeriod = s.cfg.params.flashOnMs + s.cfg.params.flashOffMs + 4 := rfl
  have hle {j} (hj : j ≤ s.preset.toNat) := Nat.mul_le_mul_right s.flashPeriod hj
  have hlt {j} (hj : j < s.preset.toNat) := s.flashPeriod_mul_le hj
  rw [State.flashEnd] at h
  cases h with
  | due j st led cnt time => have := hle (j := j) (by omega); omega
  | lit j st ret led cnt more time ticks => have := hlt (j := j) (by omega); omega
  | gap j st led cnt more time => have := hlt (j := j) (by omega); omega
  | dark j st ret led cnt time ticks => have := hle (j := j) (by omega); omega
  | ended st led cnt time => exact ⟨st, led, cnt⟩

/-- The entry's own cycle (R161). -/
theorem step_of_entry (hst : s.st = sIdle) (hbtn : s.inputs.btnIn = true) (hled : s.led = false)
    (hrst : s.inputs.rst = false) : ∃ t, step s = .next t ∧ s.KeptByFlashes t ∧ s.FlashAt 1 t := by
  obtain ⟨-, hexec⟩ := overlayEnterResult
  obtain ⟨i, l, k, e⟩ := step_of_exec hrst hst (by rw [hbtn]; rfl) (hexec s)
  exact ⟨_, e, ⟨rfl, rfl, rfl, rfl, rfl, rfl⟩, .due 0 rfl hled rfl (by omega)⟩

/-- One cycle of the phase: a state that starts a wait starts it, and a wait counts or ends. -/
theorem State.FlashAt.step (h : s.FlashAt k t) (kept : s.KeptByFlashes t) (hk : k < s.flashEnd)
    (hrst : t.inputs.rst = false) (htick : t.inputs.tickMs = true) :
    ∃ u, step t = .next u ∧ s.KeptByFlashes u ∧ s.FlashAt (k + 1) u := by
  have hperiod : s.flashPeriod = s.cfg.params.flashOnMs + s.cfg.params.flashOffMs + 4 := rfl
  have ⟨hcfg, _⟩ := kept
  have hon : (delay t.cfg.params.flashOnMs).toNat = s.cfg.params.flashOnMs := by
    rw [hcfg]; exact delay_toNat s.cfg (by simp [Params.delays])
  have hoff : (delay t.cfg.params.flashOffMs).toNat = s.cfg.params.flashOffMs := by
    rw [hcfg]; exact delay_toNat s.cfg (by simp [Params.delays])
  cases h with
  | due j st led cnt time =>
    by_cases hz : t.flashCnt = 0#2
    · obtain ⟨i, l, f, e⟩ := step_of_exec hrst st rfl (exec_flashOn_of_zero hz)
      have hj : j = s.preset.toNat := by simpa [hz] using cnt
      exact ⟨_, e, kept, .ended rfl led hz (by rw [State.flashEnd, ← hj]; omega)⟩
    · obtain ⟨i, l, f, e⟩ := step_of_exec hrst st rfl (exec_flashOn_of_ne_zero hz)
      exact ⟨_, e, kept, .lit j rfl rfl rfl cnt (by bv_omega) (by dsimp only; omega) hon.le⟩
  | lit j st ret led cnt more time ticks =>
    obtain ⟨i, l, f, ⟨hz, e⟩ | ⟨x, hx, e⟩⟩ := step_of_tick st hrst htick
    · exact ⟨_, e, kept, .gap j ret led cnt more (by omega)⟩
    · exact ⟨_, e, kept, .lit j st ret led cnt more (by dsimp only; omega) (by dsimp only; omega)⟩
  | gap j st led cnt more time =>
    obtain ⟨i, l, f, e⟩ := step_of_exec hrst st rfl (exec_flashOff_of_pos more)
    have hcnt : (BitVec.ofNat 2 (t.flashCnt.toNat - 1)).toNat + (j + 1) = s.preset.toNat := by bv_omega
    have htime : (j + 1) * s.flashPeriod = j * s.flashPeriod + s.flashPeriod := Nat.succ_mul ..
    exact ⟨_, e, kept, .dark (j + 1) rfl rfl rfl hcnt (by dsimp only; omega) hoff.le⟩
  | dark j st ret led cnt time ticks =>
    obtain ⟨i, l, f, ⟨hz, e⟩ | ⟨x, hx, e⟩⟩ := step_of_tick st hrst htick
    · exact ⟨_, e, kept, .due j ret led cnt (by omega)⟩
    · exact ⟨_, e, kept, .dark j st ret led cnt (by dsimp only; omega) (by dsimp only; omega)⟩
  | ended st led cnt time => omega

/-- The phase over any number of its cycles. -/
theorem State.FlashAt.after (h : s.FlashAt k t) (kept : s.KeptByFlashes t)
    (g : t.givenFor n (fun i => i.rst = false ∧ i.tickMs = true)) (hk : k + n ≤ s.flashEnd) :
    ∃ u, t.after n = .next u ∧ s.KeptByFlashes u ∧ s.FlashAt (k + n) u := by
  induction n generalizing k t with
  | zero => exact ⟨t, rfl, kept, h⟩
  | succ n ih =>
    obtain ⟨hrst, htick⟩ := g.head
    obtain ⟨v, e, hkept, hat⟩ := h.step kept (by omega) hrst htick
    obtain ⟨u, hu, hkept', hat'⟩ := ih hat hkept (g.tail e) (by omega)
    exact ⟨u, (State.after_succ e n).trans hu, hkept', by rwa [Nat.add_right_comm, Nat.add_assoc] at hat'⟩

/-- An entry and the phase it begins. -/
theorem State.after_of_entry (hst : s.st = sIdle) (hbtn : s.inputs.btnIn = true) (hled : s.led = false)
    (g : s.givenFor (n + 1) (fun i => i.rst = false ∧ i.tickMs = true)) (hn : n + 1 ≤ s.flashEnd) :
    ∃ t, s.after (n + 1) = .next t ∧ s.KeptByFlashes t ∧ s.FlashAt (n + 1) t := by
  obtain ⟨hrst, -⟩ := g.head
  obtain ⟨v, e, hkept, hat⟩ := step_of_entry hst hbtn hled hrst
  obtain ⟨t, ht, hkept', hat'⟩ := hat.after hkept (g.tail e) (by omega)
  exact ⟨t, (State.after_succ e n).trans ht, hkept', by rwa [Nat.add_comm] at hat'⟩

end

/-- Settles O43: cycle 0 is dark, and every later one stands somewhere in the phase, the last one at its end. -/
theorem flashPhaseShowsPresetFlashes : Obligations.FlashPhaseShowsPresetFlashes := by
  rintro s _ rfl hst hbtn hled g
  refine ⟨fun k hk => ?cycle, ?last⟩
  case cycle =>
    cases k with
    | zero =>
      have hdark : ¬ s.flashLit 0 := s.not_flashLit (j := 0) (by omega) (by omega)
      exact ⟨s, rfl, iff_of_false (by simp [hled]) hdark⟩
    | succ k =>
      obtain ⟨t, ht, -, hat⟩ := State.after_of_entry hst hbtn hled (g.mono hk) hk
      exact ⟨t, ht, hat.led_iff⟩
  case last =>
    have hend : s.flashEnd = 1 + s.preset.toNat * s.flashPeriod + 1 := by rw [State.flashEnd]; omega
    obtain ⟨t, ht, ⟨-, hovl, hpreset, hoctave, hpool, hprev⟩, hat⟩ :=
      State.after_of_entry hst hbtn hled (g.mono hend.ge) hend.ge
    rw [← hend] at ht hat
    obtain ⟨hst', hled', hcnt⟩ := hat.ended_of_flashEnd
    exact ⟨t, ht, hst', hovl, hled', hcnt, hpreset, hoctave, hpool, hprev⟩

end Sys2Proof.Machine
end

section
/-! SUPPORT. The delay timer (spec/60_exceptions.md R208): one WAIT_TICK, and by induction a wait with a tick in every cycle and a
wait with none. -/

namespace Sys2Proof.Machine

variable {s : State}

/-! ## One cycle -/

/-- A wait with ticks still to count holds without one (R208). -/
theorem exec_waitTick_of_noTick (h : s.waitCnt ≠ 0#16) (htick : s.inputs.tickMs = false) :
    exec .waitTick s = .next { s with resValid := false } := by
  rcases s.execWaitTick_cases with ⟨h', -⟩ | ⟨-, htick', -⟩ | ⟨-, -, e⟩
  · exact absurd h' h
  · simp [htick] at htick'
  · exact e

/-- Settles O44: the selector's row, and the three cases of the rule. -/
theorem waitTickResult : Obligations.WaitTickResult :=
  ⟨fun _ _ => rfl, fun _ => ⟨exec_waitTick_of_zero, exec_waitTick_of_tick, exec_waitTick_of_noTick⟩⟩

/-! ## A tick in every cycle -/

/-- Each cycle of a wait with a tick takes one tick off the count, until none is left. -/
theorem State.after_of_ticks {k : Nat} {s : State} (g : s.givenFor k (fun i => i.rst = false ∧ i.tickMs = true))
    (hst : s.st = sWait) (hk : k ≤ s.waitCnt.toNat) :
    ∃ t, s.after k = .next t ∧ t.st = sWait ∧ t.waitCnt.toNat = s.waitCnt.toNat - k := by
  induction k generalizing s with
  | zero => exact ⟨s, rfl, hst, rfl⟩
  | succ k ih =>
    obtain ⟨hrst, htick⟩ := g.head
    obtain ⟨i, l, f, ⟨hzero, -⟩ | ⟨x, hx, h⟩⟩ := step_of_tick hst hrst htick
    · omega
    · obtain ⟨t, e, hst', hcnt⟩ := ih (g.tail h) hst (by dsimp only; omega)
      dsimp only at hcnt
      exact ⟨t, (State.after_succ h k).trans e, hst', by omega⟩

/-- R208, R241: the cycle after the last of `n` ticks leaves for `wait_ret`. -/
theorem State.after_of_waitEnd {n : Nat} {s : State}
    (g : s.givenFor (n + 1) (fun i => i.rst = false ∧ i.tickMs = true)) (hst : s.st = sWait) (hn : s.waitCnt.toNat = n) :
    ∃ i l k, s.after (n + 1) = .next
      { s with st := s.waitRet, waitCnt := 0#16, resValid := false, inputs := i, stim := l, freeIdx := k } := by
  induction n generalizing s with
  | zero =>
    obtain ⟨hrst, htick⟩ := g.head
    obtain ⟨i, l, k, ⟨-, h⟩ | ⟨x, hx, -⟩⟩ := step_of_tick hst hrst htick
    · have hzero : s.waitCnt = 0#16 := BitVec.eq_of_toNat_eq hn
      rw [← hzero]
      exact ⟨i, l, k, State.after_succ h 0⟩
    · omega
  | succ n ih =>
    obtain ⟨hrst, htick⟩ := g.head
    obtain ⟨i, l, k, ⟨hzero, -⟩ | ⟨x, hx, h⟩⟩ := step_of_tick hst hrst htick
    · omega
    · obtain ⟨i', l', k', e⟩ := ih (g.tail h) hst (by dsimp only; omega)
      exact ⟨i', l', k', (State.after_succ h _).trans e⟩

/-- Settles O45: the count's value after each cycle of the wait, and the whole state at its end. -/
theorem waitLastsOneCycleMoreThanItsTicks : Obligations.WaitLastsOneCycleMoreThanItsTicks := by
  intro s hst g
  refine ⟨fun k hk => State.after_of_ticks (g.mono (by omega)) hst hk, ?_⟩
  obtain ⟨i, l, k, h⟩ := State.after_of_waitEnd g hst rfl
  exact ⟨_, h, rfl⟩

/-! ## No tick -/

/-- R208: without ticks, a wait with ticks still to count writes the result flag and the pins only. -/
theorem State.after_of_noTicks {n : Nat} {s : State} (g : s.givenFor n (fun i => i.rst = false ∧ i.tickMs = false))
    (hst : s.st = sWait) (hcnt : s.waitCnt ≠ 0#16) :
    ∃ v i l k, s.after n = .next { s with resValid := v, inputs := i, stim := l, freeIdx := k } := by
  induction n generalizing s with
  | zero => exact ⟨_, _, _, _, rfl⟩
  | succ n ih =>
    obtain ⟨hrst, htick⟩ := g.head
    obtain ⟨i, l, k, h⟩ := step_of_exec hrst hst rfl (exec_waitTick_of_noTick hcnt htick)
    obtain ⟨v', i', l', k', e⟩ := ih (g.tail h) hst hcnt
    exact ⟨v', i', l', k', (State.after_succ h n).trans e⟩

/-- Settles O46: what the cycles without a tick leave is the state itself, but for the flag and the pins. -/
theorem waitWithoutTicksHolds : Obligations.WaitWithoutTicksHolds := by
  intro s n hst hcnt g
  obtain ⟨v, i, l, k, h⟩ := State.after_of_noTicks g hst hcnt
  exact ⟨_, h, rfl⟩

end Sys2Proof.Machine
end

section
/-! SUPPORT. Which cycles go on, and what a reset cycle leaves (spec/10_state.md R22, R24, R39, R40; spec/60_exceptions.md R220;
spec/70_reset_and_hazards.md R242). -/

namespace Sys2Proof.Machine

variable {s : State}

/-- An operation that decides between two ways goes on if each of them does. -/
theorem exists_next_ite {c : Prop} [Decidable c] {o o' : StepOutcome} (h : ∃ u, o = .next u) (h' : ∃ u, o' = .next u) :
    ∃ u, (if c then o else o') = .next u := by
  split
  · exact h
  · exact h'

/-- R242: an operation that a cycle selects goes on. SCAN_EDGE, the only one that can stop, is selected with an edge pending;
of the others some have one way to go, and some decide between two or three (the cases in R92's order). -/
theorem exec_of_fetch {i : Instr} (h : fetch s = .ok i) : ∃ u, exec i s = .next u := by
  have goesOn (u : State) : ∃ v, (.next u : StepOutcome) = .next v := ⟨u, rfl⟩
  have choice {c : Prop} [Decidable c] (u v : State) : ∃ w, (if c then .next u else .next v : StepOutcome) = .next w :=
    exists_next_ite (goesOn u) (goesOn v)
  rcases fetch_cases h with ⟨-, -, rfl⟩ | ⟨-, -, rfl⟩ | ⟨-, hpend, rfl⟩ | ⟨-, -, rfl⟩ | ⟨-, rfl⟩ | ⟨-, rfl⟩ | ⟨-, rfl⟩ |
    ⟨-, rfl⟩ | ⟨-, -, rfl⟩ | ⟨-, -, rfl⟩ | ⟨-, rfl⟩ | ⟨-, rfl⟩ | ⟨-, rfl⟩ | ⟨-, rfl⟩
  · exact goesOn _
  · exact goesOn _
  · obtain ⟨line, low⟩ := lowest_pend hpend
    exact ⟨_, execScanEdge_of_lowest low⟩
  · exact goesOn _
  · exact exists_next_ite (choice _ _) (goesOn _)
  · exact exists_next_ite (goesOn _) (choice _ _)
  · exact choice _ _
  · exact goesOn _
  · exact goesOn _
  · exact goesOn _
  · exact exists_next_ite (goesOn _) (choice _ _)
  · exact goesOn _
  · exact choice _ _
  · exact choice _ _

/-- R24, R39: a cycle in any of the eleven states goes on, with `rst` or without. -/
theorem step_of_legalCode (h : s.st.toNat ≤ 10) : ∃ t, step s = .next t := by
  cases hrst : s.inputs.rst with
  | true => exact ⟨_, step_of_rst hrst⟩
  | false =>
    obtain ⟨i, hi⟩ := fetch_ok h
    obtain ⟨u, hu⟩ := exec_of_fetch hi
    exact ⟨_, by rw [step_of_fetch hrst hi, hu, onNext]⟩

/-- A step goes on, or it is the fault of a reserved code. -/
theorem step_next_or_fault (s : State) :
    (∃ t, step s = .next t) ∨
      (s.inputs.rst = false ∧ 11 ≤ s.st.toNat ∧ step s = .fault (.illegalSequencerState s.st)) := by
  obtain ⟨hfault, -, -⟩ := reservedSequencerCodesFaultAndAreNeverWritten
  cases hrst : s.inputs.rst with
  | true => exact .inl ⟨_, step_of_rst hrst⟩
  | false =>
    rcases Nat.lt_or_ge s.st.toNat 11 with h | h
    · exact .inl (step_of_legalCode (by omega))
    · exact .inr ⟨rfl, h, hfault s hrst h⟩

/-- Settles O7: the fault of a reserved code without `rst` is the only way a step can stop. -/
theorem stepGoesOnOutsideReservedCodes : Obligations.StepGoesOnOutsideReservedCodes := by
  intro s
  rcases step_next_or_fault s with ⟨t, e⟩ | ⟨hrst, hst, e⟩
  · exact ⟨fun _ => ⟨t, e⟩, fun r => by rw [e]; exact nofun⟩
  · refine ⟨?_, fun r => by rw [e]; exact nofun⟩
    rintro (h | h)
    · omega
    · simp [hrst] at h

/-- Settles O4: the reset registers, which the pins that move on leave as they are; `OCT_RESET` fits the register (R8). -/
theorem resetCycleRestoresEveryRegister : Obligations.ResetCycleRestoresEveryRegister := by
  intro s hrst
  obtain ⟨-, hle, hmax⟩ := s.cfg.octaves_ordered
  have hoct : (BitVec.ofNat 4 s.cfg.params.octReset).toNat = s.cfg.params.octReset := by
    rw [BitVec.toNat_ofNat]
    omega
  have hpool : ∀ i < 4, (Pool.empty.get i).v = false ∧ (Pool.empty.get i).k = 0#4 := by decide
  obtain ⟨i, l, k, e⟩ := s.resetRegisters.nextCycle_pins
  refine ⟨_, step_of_rst hrst, ?_⟩
  rw [e]
  exact ⟨rfl, rfl, rfl, rfl, hoct, rfl, hpool, rfl, rfl, rfl, rfl, rfl, rfl, rfl, rfl, rfl, rfl, rfl, rfl, rfl, rfl, rfl, rfl,
    rfl⟩

end Sys2Proof.Machine
end

section
/-! SUPPORT. A poll with the transmitter always ready (spec/70_reset_and_hazards.md R241; spec/40_key_scanner.md R103 to R106): a
bound on the cycles that are left of it, which every cycle takes at least one off. -/

namespace Sys2Proof.Machine

variable {s t : State} {n : Nat}

/-! ## The edges left -/

/-- The number of lines with an edge pending (R241). -/
def edgeCount (k : Keys) : Nat := (List.range 13).countP k.getLsbD

/-- Clearing a pending edge leaves one edge less (R103, R104). -/
theorem edgeCount_clearEdge {k : Keys} {line : Nat} (hline : line < 13) (hbit : k.getLsbD line = true) :
    edgeCount (k &&& ~~~(1#13 <<< line)) + 1 = edgeCount k := by
  have hmem : line ∈ List.range 13 := List.mem_range.mpr hline
  have hpos : 0 < edgeCount k := List.countP_pos_iff.mpr ⟨line, hmem, hbit⟩
  have hcleared : edgeCount (k &&& ~~~(1#13 <<< line)) = ((List.range 13).erase line).countP k.getLsbD := by
    rw [edgeCount, List.nodup_range.erase_eq_filter, List.countP_filter]
    refine List.countP_congr fun j hj => ?_
    rw [clearEdge_getLsbD k line (List.mem_range.mp hj)]
    simp
  rw [hcleared, List.countP_erase, if_pos ⟨hmem, hbit⟩]
  exact Nat.sub_add_cancel hpos

/-! ## One cycle of a poll -/

/-- From a state of a poll, at most `n` cycles are left with the transmitter ready: one for the scan's end, four for each pending
edge, and in `S_TX` one for each byte not yet accepted (R241). -/
inductive State.PollLeft (n : Nat) (s : State) : Prop
  | scan (st : s.st = sScan) (left : 1 + 4 * edgeCount s.pend ≤ n)
  | message (st : s.st = sTx) (ret : s.txRet = sScan) (idx : s.txIdx.toNat < s.msgLen.toNat)
      (left : s.msgLen.toNat + 1 + 4 * edgeCount s.pend ≤ n + s.txIdx.toNat)

/-- A poll is over: back in `S_IDLE`, nothing pending, and the sample stored (R106). -/
def State.PollDone (s : State) : Prop := s.st = sIdle ∧ s.pend = 0#13 ∧ s.prev = s.cur

/-- What a poll does not write, from its sample on (R105, R106). -/
def State.KeptByPoll (s t : State) : Prop := t.cur = s.cur ∧ t.octave = s.octave ∧ t.preset = s.preset

/-- A cycle of a poll ends it, or takes at least one off the cycles left. -/
theorem State.PollLeft.step (h : s.PollLeft (n + 1)) (hrst : s.inputs.rst = false) (hready : s.inputs.txReady = true) :
    ∃ t, step s = .next t ∧ s.KeptByPoll t ∧ (t.PollDone ∨ t.PollLeft n) := by
  cases h with
  | scan st left =>
    by_cases hpend : s.pend = 0#13
    · obtain ⟨-, hend⟩ := scanEndResult
      obtain ⟨i, l, k, e⟩ := step_of_exec hrst st (by rw [hpend]; rfl) (hend s)
      exact ⟨_, e, ⟨rfl, rfl, rfl⟩, .inl ⟨rfl, hpend, rfl⟩⟩
    · obtain ⟨line, low⟩ := lowest_pend hpend
      obtain ⟨hlt, hbit, -⟩ := lowestEdge_line low
      have hcount := edgeCount_clearEdge hlt hbit
      obtain ⟨i, l, k, e⟩ := step_of_exec (i := .scanEdge) hrst st (by rw [bne_iff_ne.mpr hpend]; rfl)
        (execScanEdge_of_lowest low)
      refine ⟨_, e, ⟨s.scanEvent_cur line, s.scanEvent_octave line, s.scanEvent_preset line⟩, .inr ?_⟩
      rcases s.scanEvent_seq line st with ⟨est, -⟩ | ⟨est, elen, eidx, eret⟩
      · exact .scan est (by dsimp only; rw [State.scanEvent_pend]; omega)
      · refine .message est eret ?_ ?_ <;> dsimp only <;> rw [elen, eidx]
        · decide
        · rw [State.scanEvent_pend]
          simp only [BitVec.toNat_ofNat]
          omega
  | message st ret idx left =>
    by_cases hlast : s.txIdx.toNat + 1 = s.msgLen.toNat
    · obtain ⟨i, l, k, e⟩ := step_of_lastByte st hrst hready hlast
      exact ⟨_, e, ⟨rfl, rfl, rfl⟩, .inr (.scan ret (by dsimp only; omega))⟩
    · obtain ⟨x, i, l, k, hx, e⟩ := step_of_earlierByte st hrst hready (by omega)
      exact ⟨_, e, ⟨rfl, rfl, rfl⟩, .inr (.message st ret (by dsimp only; omega) (by dsimp only; omega))⟩

/-- A state of a poll has at least one cycle left of it. -/
theorem State.PollLeft.pos (h : s.PollLeft n) : 0 < n := by
  cases h <;> omega

/-! ## The whole poll -/

/-- R241: the poll is over within the cycles left. -/
theorem State.PollLeft.after (h : s.PollLeft n) (g : s.givenFor n (fun i => i.rst = false ∧ i.txReady = true)) :
    ∃ m t, m ≤ n ∧ s.after m = .next t ∧ s.KeptByPoll t ∧ t.PollDone := by
  induction n generalizing s with
  | zero => exact absurd h.pos (lt_irrefl 0)
  | succ n ih =>
    obtain ⟨hrst, hready⟩ := g.head
    obtain ⟨t, e, hkept, hdone | hleft⟩ := h.step hrst hready
    · exact ⟨1, t, by omega, State.after_succ e 0, hkept, hdone⟩
    · obtain ⟨m, u, hm, hu, hkept', hdone⟩ := ih hleft (g.tail e)
      obtain ⟨hcur, hoctave, hpreset⟩ := hkept
      obtain ⟨hcur', hoctave', hpreset'⟩ := hkept'
      exact ⟨m + 1, u, by omega, (State.after_succ e m).trans hu,
        ⟨hcur'.trans hcur, hoctave'.trans hoctave, hpreset'.trans hpreset⟩, hdone⟩

/-- Settles O15: `1 + 4E` bounds the cycles left in `S_SCAN`. -/
theorem pollCompletesWithinItsCycles : Obligations.PollCompletesWithinItsCycles := by
  intro s hst g
  have hleft : s.PollLeft (1 + 4 * edgeCount s.pend) := .scan hst (Nat.le_refl _)
  obtain ⟨n, t, hn, ht, ⟨hcur, hoctave, hpreset⟩, hidle, hpend, hprev⟩ := hleft.after g
  exact ⟨n, t, hn, ht, hidle, hpend, hcur, hprev.trans hcur, hoctave, hpreset⟩

end Sys2Proof.Machine
end

section
/-! SUPPORT. Infinite runs (spec/70_reset_and_hazards.md R242 to R244): one cycle of a run, the invariant along it, and what the two
fairness duties bring about. -/

namespace Sys2Proof.Machine

/-! ## One cycle of a run -/

section
variable {r : Nat → State} {n : Nat}

/-- Registers and parameters that agree leave the pins and the model's bookkeeping to differ. -/
theorem State.sameRegisters.eq_pins {s t : State} (h : s.sameRegisters t) (hcfg : t.cfg = s.cfg) :
    ∃ i l k, t = { s with inputs := i, stim := l, freeIdx := k } := by
  refine ⟨t.inputs, t.stim, t.freeIdx, ?_⟩
  rw [← hcfg]
  exact h.symm

/-- R22, R243: a cycle that goes on leads to the step's state, under any pins. -/
theorem IsRun.next (hr : IsRun r) {t : State} (h : step (r n) = .next t) :
    ∃ i l k, r (n + 1) = { t with inputs := i, stim := l, freeIdx := k } := by
  obtain ⟨hcfg, hregs⟩ := hr n
  rw [h] at hregs
  exact hregs.eq_pins (hcfg.trans (step_cfg h).symm)

/-- The same for an operation that the cycle's state selects (R39). -/
theorem IsRun.next_of_exec (hr : IsRun r) {code : SeqCode} {i : Instr} {t : State} (hrst : (r n).inputs.rst = false)
    (hst : (r n).st = code) (hsel : decode (.st4 code (r n).inputs.btnIn ((r n).pend != 0#13)) = .ok i)
    (h : exec i (r n) = .next t) : ∃ i l k, r (n + 1) = { t with inputs := i, stim := l, freeIdx := k } := by
  obtain ⟨i, l, k, e⟩ := step_of_exec hrst hst hsel h
  obtain ⟨i', l', k', e'⟩ := hr.next e
  exact ⟨i', l', k', e'⟩

/-- R25, R244: every state of a run from a legal one is legal: its step goes on, and keeps the invariant. -/
theorem IsRun.legal (hr : IsRun r) (h : (r 0).legal) (n : Nat) : (r n).legal := by
  induction n with
  | zero => exact h
  | succ n ih =>
    have ⟨⟨hst, _⟩, _⟩ := ih
    obtain ⟨t, ht⟩ := step_of_legalCode hst
    obtain ⟨i, l, k, e⟩ := hr.next ht
    have legal : t.legal := stepKeepsLegalStates (r n) t ih ht
    rw [e]
    exact legal

end

/-- Settles O54: the reset state has nothing in flight and is legal, and a legal state's code is no fault. -/
theorem launchedRunsNeverFault : Obligations.LaunchedRunsNeverFault := by
  intro r hr hlaunch
  have legal : (r 0).legal := hlaunch ▸ State.resetWith_legal ..
  have hfree : ∀ i < 4, (Pool.empty.get i).v = false := by decide
  refine ⟨?launch, fun n => ?noFault⟩
  case launch =>
    rw [← hlaunch]
    exact ⟨rfl, rfl, rfl, rfl, hfree⟩
  case noFault =>
    obtain ⟨⟨hst, -⟩, -⟩ := hr.legal legal n
    exact hst

/-! ## Fairness -/

/-- What fairness brings about (R243): from a state of rank `k` the goal is reached, if a cycle reaches it, lowers the rank, or,
where the environment does not do its duty, keeps the rank. -/
theorem eventually_of_rank {r : Nat → State} {rank : Nat → State → Prop} {duty goal : State → Prop}
    (cycle : ∀ n k, rank k (r n) →
      goal (r (n + 1)) ∨ (∃ j < k, rank j (r (n + 1))) ∨ (¬ duty (r n) ∧ rank k (r (n + 1))))
    (fair : ∀ n, ∃ m ≥ n, duty (r m)) {k n : Nat} (h : rank k (r n)) : ∃ m, goal (r m) := by
  induction k using Nat.strong_induction_on generalizing n with
  | _ k lower =>
    obtain ⟨m, hm, hduty⟩ := fair n
    obtain ⟨d, rfl⟩ := Nat.exists_eq_add_of_le hm
    induction d generalizing n with
    | zero =>
      rcases cycle n k h with hgoal | ⟨j, hj, hrank⟩ | ⟨hnot, -⟩
      · exact ⟨n + 1, hgoal⟩
      · exact lower j hj hrank
      · exact absurd hduty hnot
    | succ d ih =>
      rcases cycle n k h with hgoal | ⟨j, hj, hrank⟩ | ⟨-, hrank⟩
      · exact ⟨n + 1, hgoal⟩
      · exact lower j hj hrank
      · exact ih hrank (by omega) (by rwa [Nat.add_right_comm, Nat.add_assoc])

section
variable {r : Nat → State} {ret : SeqCode} {n k : Nat}

/-- `k` bytes of a message that returns to `ret` are not yet accepted (R147). -/
def State.BytesLeft (ret : SeqCode) (k : Nat) (s : State) : Prop :=
  s.st = sTx ∧ s.txRet = ret ∧ 0 < k ∧ s.txIdx.toNat + k = s.msgLen.toNat

/-- R147, R149: a cycle of a message ends it, accepts an earlier byte, or is stalled. -/
theorem IsRun.message_cycle (hr : IsRun r) (hrst : (r n).inputs.rst = false) (h : (r n).BytesLeft ret k) :
    ((r (n + 1)).st = ret ∧ (r (n + 1)).txIdx = 0#2) ∨ (∃ j < k, (r (n + 1)).BytesLeft ret j) ∨
      ((r n).stalled = true ∧ (r (n + 1)).BytesLeft ret k) := by
  obtain ⟨hst, hret, hpos, hleft⟩ := h
  cases hready : (r n).inputs.txReady with
  | false =>
    obtain ⟨i, l, f, e⟩ := hr.next_of_exec hrst hst rfl (exec_txByte_of_stall hready)
    rw [e]
    exact .inr (.inr ⟨by simp [State.stalled, State.outputs, hst, hready], hst, hret, hpos, hleft⟩)
  | true =>
    by_cases hlast : k = 1
    · obtain ⟨i, l, f, e⟩ := hr.next_of_exec hrst hst rfl (exec_txByte_of_last hready (by omega))
      rw [e]
      exact .inl ⟨hret, rfl⟩
    · obtain ⟨x, _, _, _, hx, h⟩ := step_of_earlierByte hst hrst hready (by omega)
      obtain ⟨i, l, f, e⟩ := hr.next h
      rw [e]
      exact .inr (.inl ⟨k - 1, by omega, hst, hret, by omega, by dsimp only; omega⟩)

/-- `k` ticks of a wait that returns to `ret` are still to count (R208). -/
def State.TicksLeft (ret : SeqCode) (k : Nat) (s : State) : Prop :=
  s.st = sWait ∧ s.waitRet = ret ∧ s.waitCnt.toNat = k

/-- R208: a cycle of a wait ends it, counts a tick, or has no tick. -/
theorem IsRun.wait_cycle (hr : IsRun r) (hrst : (r n).inputs.rst = false) (h : (r n).TicksLeft ret k) :
    ((r (n + 1)).st = ret ∧ (r (n + 1)).waitCnt = 0#16) ∨ (∃ j < k, (r (n + 1)).TicksLeft ret j) ∨
      ((r n).inputs.tickMs = false ∧ (r (n + 1)).TicksLeft ret k) := by
  obtain ⟨hst, hret, hcnt⟩ := h
  by_cases hzero : (r n).waitCnt = 0#16
  · obtain ⟨i, l, f, e⟩ := hr.next_of_exec hrst hst rfl (exec_waitTick_of_zero hzero)
    rw [e]
    exact .inl ⟨hret, hzero⟩
  · cases htick : (r n).inputs.tickMs with
    | true =>
      obtain ⟨i, l, f, e⟩ := hr.next_of_exec hrst hst rfl (exec_waitTick_of_tick hzero htick)
      rw [e]
      exact .inr (.inl ⟨_, by bv_omega, hst, hret, rfl⟩)
    | false =>
      obtain ⟨i, l, f, e⟩ := hr.next_of_exec hrst hst rfl (exec_waitTick_of_noTick hzero htick)
      rw [e]
      exact .inr (.inr ⟨rfl, hst, hret, hcnt⟩)

end

/-- Where the transmitter does not stall, no byte is offered or it is ready for one (R203). -/
theorem State.stalled_eq_false {s : State} :
    s.stalled = false ↔ s.outputs.txValid = false ∨ s.inputs.txReady = true := by
  rw [State.stalled, Bool.and_eq_false_iff, Bool.not_eq_false']

/-- Settles O52: the duty on `tx_ready` breaks every stall, and the rank is the number of bytes left. -/
theorem fairRunsEndTheirMessages : Obligations.FairRunsEndTheirMessages := by
  intro r hr hrst hfair hst hidx
  have hleft : (r 0).BytesLeft (r 0).txRet ((r 0).msgLen.toNat - (r 0).txIdx.toNat) :=
    ⟨hst, rfl, by omega, by omega⟩
  refine eventually_of_rank (duty := fun s => s.stalled = false)
    (goal := fun s => s.st = (r 0).txRet ∧ s.txIdx = 0#2) (fun n k h => ?cycle) (fun n => ?duty) hleft
  case cycle => simpa using hr.message_cycle (hrst n) h
  case duty => simpa only [State.stalled_eq_false] using hfair n

/-- Settles O53: the rank is the number of ticks left. -/
theorem fairRunsEndTheirWaits : Obligations.FairRunsEndTheirWaits := by
  intro r hr hrst hfair hst
  have hleft : (r 0).TicksLeft (r 0).waitRet (r 0).waitCnt.toNat := ⟨hst, rfl, rfl⟩
  refine eventually_of_rank (duty := fun s => s.inputs.tickMs = true)
    (goal := fun s => s.st = (r 0).waitRet ∧ s.waitCnt = 0#16) (fun n k h => ?cycle) hfair hleft
  simpa using hr.wait_cycle (hrst n) h

end Sys2Proof.Machine
end

section
/-! SUPPORT. Runs of stimulus scripts and how they end (spec/70_reset_and_hazards.md R242, R244; spec/30_encoding.md R93). -/

namespace Sys2Proof.Machine

/-! ## A script's run (R93, R242) -/

/-- A run so far has met no fault, and is in a state from which it meets none. -/
def Bench.Safe (b : Bench) : Prop := b.machine.legal ∧ b.noFault = true

/-- R242: the `RESET` that a run begins with leads to the reset state, whatever the state before; then only the pins move. -/
theorem Bench.launch_machine (s : State) :
    ∃ i l k, (Bench.launch s).machine = State.resetWith s.cfg i l k := by
  obtain ⟨i, l, k, e⟩ := (s.drive { idleInputs with rst := true }).resetRegisters.nextCycle_pins
  refine ⟨i, l, k, ?_⟩
  rw [Bench.launch, Bench.cycle_reset]
  exact e

theorem Bench.launch_noFault (s : State) : (Bench.launch s).noFault = true := by
  rw [Bench.launch, Bench.cycle_reset]
  rfl

theorem Bench.launch_safe (s : State) : (Bench.launch s).Safe := by
  obtain ⟨i, l, k, e⟩ := Bench.launch_machine s
  exact ⟨e ▸ State.resetWith_legal .., Bench.launch_noFault s⟩

/-- A cycle under any pins: a legal state's step goes on to a legal state. -/
theorem Bench.Safe.cycle {b : Bench} (h : b.Safe) (rst : Bool) : (b.cycle rst).Safe := by
  obtain ⟨legal, hnoFault⟩ := h
  have hdrive : (b.machine.drive { b.pins with rst := rst }).legal := legal
  rcases b.cycle_cases rst with ⟨t, ht, e⟩ | ⟨hstop, -⟩
  · rw [e]
    exact ⟨stepKeepsLegalStates _ t hdrive ht, hnoFault⟩
  · have ⟨⟨hst, _⟩, _⟩ := hdrive
    obtain ⟨t, ht⟩ := step_of_legalCode hst
    exact absurd ht (hstop t)

theorem runScript_safe (bound : Nat) (script : List Cmd) (s : State) : (runScript bound script s).Safe :=
  runScript_keeps (P := Bench.Safe) (fun rst _ h => h.cycle rst) (fun _ _ _ _ _ h => h) bound script s (Bench.launch_safe s)

/-! ## The ends of a run (R242) -/

section
variable {b : Bench}

/-- The conditions of a clean end, in the registers' and ports' terms (R242). -/
theorem Bench.endsCleanly_iff : b.endsCleanly = true ↔
    b.machine.st = sIdle ∧ b.machine.pend = 0#13 ∧ b.machine.outputs.txValid = false ∧ b.reached = true := by
  simp only [Bench.endsCleanly, State.cleanEnd, Bool.and_eq_true, beq_iff_eq, Bool.not_eq_true', and_assoc]

/-- Which end a run has, by the range of its code: reserved, cut off, or a state of a poll, where the end may be clean. -/
theorem Bench.ending_cases (b : Bench) :
    (11 ≤ b.machine.st.toNat ∧ b.ending = .fault) ∨
    ((2 ≤ b.machine.st.toNat ∧ b.machine.st.toNat ≤ 10) ∧ b.ending = .cutOff) ∨
    (b.machine.st.toNat ≤ 1 ∧ b.ending = if b.endsCleanly then .clean else .notClean) := by
  simp only [Bench.ending, State.cutOff, decide_eq_true_eq]
  by_cases hfault : 11 ≤ b.machine.st.toNat
  · exact .inl ⟨hfault, if_pos hfault⟩
  · rw [if_neg hfault]
    by_cases hcut : 2 ≤ b.machine.st.toNat ∧ b.machine.st.toNat ≤ 10
    · exact .inr (.inl ⟨hcut, if_pos hcut⟩)
    · exact .inr (.inr ⟨by omega, if_neg hcut⟩)

/-- R25: a run ends in a fault exactly with a reserved code. -/
theorem Bench.ending_eq_fault : b.ending = .fault ↔ 11 ≤ b.machine.st.toNat := by
  rcases b.ending_cases with ⟨h, e⟩ | ⟨h, e⟩ | ⟨h, e⟩ <;> rw [e]
  · exact iff_of_true rfl h
  · exact iff_of_false nofun (by omega)
  · exact iff_of_false (by split <;> exact nofun) (by omega)

/-- R242: a run is cut off exactly in the codes from `S_TX` to the overlay's last. -/
theorem Bench.ending_eq_cutOff : b.ending = .cutOff ↔ 2 ≤ b.machine.st.toNat ∧ b.machine.st.toNat ≤ 10 := by
  rcases b.ending_cases with ⟨h, e⟩ | ⟨h, e⟩ | ⟨h, e⟩ <;> rw [e]
  · exact iff_of_false nofun (by omega)
  · exact iff_of_true rfl h
  · exact iff_of_false (by split <;> exact nofun) (by omega)

/-- R242: a run that meets the conditions of a clean end is in `S_IDLE`, so it ends in no other way. -/
theorem Bench.ending_eq_clean : b.ending = .clean ↔ b.endsCleanly = true := by
  have hidle (h : b.endsCleanly = true) : b.machine.st.toNat = 0 := by
    obtain ⟨hst, -⟩ := Bench.endsCleanly_iff.mp h
    exact congrArg BitVec.toNat hst
  rcases b.ending_cases with ⟨h, e⟩ | ⟨h, e⟩ | ⟨h, e⟩ <;> rw [e]
  · exact iff_of_false nofun fun hclean => by have := hidle hclean; omega
  · exact iff_of_false nofun fun hclean => by have := hidle hclean; omega
  · cases b.endsCleanly <;> simp

end

/-- In `S_TX` a byte is offered (R38). -/
theorem State.txValid_of_tx {s : State} (h : s.st = sTx) : s.outputs.txValid = true :=
  beq_iff_eq.mpr h

/-- R242, R243: a run that hangs breaks the duty on the input that it waits for. -/
theorem Hangs.not_fair {r : Nat → State} (h : Hangs r) : ¬ Fair r := by
  rintro ⟨htick, hready⟩
  rcases h with ⟨n, hn⟩ | ⟨n, hn⟩
  · obtain ⟨m, hm, hduty⟩ := hready n
    obtain ⟨hst, hnot⟩ := hn m hm
    simp [State.txValid_of_tx hst, hnot] at hduty
  · obtain ⟨m, hm, hduty⟩ := htick n
    obtain ⟨-, hnot⟩ := hn m hm
    simp [hnot] at hduty

/-! ## The two statements -/

/-- Settles O59: the launch is a reset state, and safety is carried along the script; a safe run's code is not reserved. -/
theorem scriptRunsBeginAtResetAndNeverFault : Obligations.ScriptRunsBeginAtResetAndNeverFault := by
  intro bound script s
  obtain ⟨i, l, k, hlaunch⟩ := Bench.launch_machine s
  obtain ⟨⟨⟨hst, -⟩, -⟩, hnoFault⟩ := runScript_safe bound script s
  rw [hlaunch]
  refine ⟨rfl, rfl, hnoFault, fun hend => ?_⟩
  have := Bench.ending_eq_fault.mp hend
  omega

/-- Settles O60: each ending by its codes, and a hang against the duty that it breaks. -/
theorem runEndsAreCleanCutOffOrFault : Obligations.RunEndsAreCleanCutOffOrFault := by
  refine ⟨fun b => ⟨Bench.ending_eq_clean.trans Bench.endsCleanly_iff, ?cutOff, Bench.ending_eq_fault⟩, fun _ => Hangs.not_fair⟩
  rw [Bench.ending_eq_cutOff]
  bv_omega

end Sys2Proof.Machine
end
